-- ==== Sys2Proof/Word.lean ====
section
/-! DEFINITION. Word types of the HMP-1116 (00_scope.md R5) and of the annex machine (49 R451). -/

namespace Sys2Proof

/-- A byte, 8 bits. -/
abbrev Byte := BitVec 8
/-- A halfword, 16 bits. -/
abbrev Half := BitVec 16
/-- A fullword, 32 bits. -/
abbrev Full := BitVec 32
/-- A bank number: the two most significant bits of an 18-bit memory address. -/
abbrev Bank := BitVec 2
/-- The number of a general register, as an R1, R2 or X2 field holds it. -/
abbrev Reg := Fin 16
/-- A word of the Central Computer, 18 bits. -/
abbrev CWord := BitVec 18

end Sys2Proof
end

