-- ==== Sys2Proof/Config.lean ====
section
/-! DEFINITION. What an implementation fixes (the named parameters of 00_scope.md R6, as plain data), what
a device may answer (47_io_and_list.md R361), and the free values: opaque constants, of which nothing can
be proved, for what the spec leaves undefined. -/

namespace Sys2Proof

/-- The interrupt classes whose entry is a Program Status Word exchange at two parameter locations
(60_exceptions.md R540, R545). -/
inductive Interrupt where
  /-- A privileged instruction in Protect Mode or an unassigned operation code (R541, R542). -/
  | illegalInstruction
  /-- DH or DHR with divisor zero or quotient out of range, when PSW bit 3 is set (R543). -/
  | fixedPointDivideFault
  /-- Exponent overflow or underflow, or floating-point division by zero, when PSW bit 5 is set (R544). -/
  | floatingPointFault
  /-- A device interrupt, or SINT, on a platform that does not route it through the Service Pointer Table (R545). -/
  | deviceInterrupt
  deriving DecidableEq, Repr

/-- How a floating-point product or quotient is rounded (45_floating_point.md R323). -/
inductive Rounding where
  /-- The spec's default: round half up in magnitude. -/
  | halfUp
  /-- The platform's own function, of which the spec asks a normalized fraction within one unit of the truncated one:
  `Config.productRounding`, `Config.quotientRounding`. -/
  | supplied
  deriving DecidableEq, Repr

/-- What a rounding does to the truncated fraction (45_floating_point.md R323). -/
inductive RoundStep where
  /-- One unit less. -/
  | down
  /-- The truncated fraction. -/
  | same
  /-- One unit more. -/
  | up
  deriving DecidableEq, Repr, Inhabited

/-- What the machine does in the two cases where the source leaves a result undefined and the spec's rule refuses: an
operand that is not normalized (45_floating_point.md R302, D38) and a quotient of magnitude 32768
(41_fixed_point_arithmetic.md R191, D19). The model's own parameter (logs 17, 18). -/
inductive UndefinedPolicy where
  /-- The step is refused, as R302 and R191 say. -/
  | refused
  /-- The machine goes on, with free values where the source leaves the result undefined. -/
  | goesOn
  deriving DecidableEq, Repr

/-- Locations of the Old and the New PSW of one interrupt class, in bank 0, and which location counter the
Old PSW receives (60_exceptions.md R545). -/
structure InterruptVector where
  /-- `VEC_OLD(k)`. -/
  old : Half
  /-- `VEC_NEW(k)`. -/
  new : Half
  /-- `FAULT_SAVED_LOC(k)`: true for the successor of the interrupting instruction, false for its own address. -/
  savesNext : Bool
  deriving DecidableEq, Repr

/-- The layout of the Service Pointer Table as a platform defines it (60_exceptions.md R548). -/
structure ServiceTable where
  /-- The size of an entry in bytes: the entry of device `d` is the halfword at X'00D0' + size * d of bank 0. -/
  entrySize : Nat
  /-- An entry with a bit of this mask set asks for an I/O channel operation, any other for an Immediate Interrupt. -/
  channelMask : Half
  /-- An Immediate Interrupt stores the Old PSW at the entry and takes the New PSW this far behind it. -/
  newOffset : Half
  deriving DecidableEq, Repr

/-- `device_interrupt_service`: what a delivered device interrupt or SINT does (60_exceptions.md R548; log 34). -/
inductive DeviceService where
  /-- No platform definition: the step is refused. The spec's default. -/
  | notSpecified
  /-- The Program Status Word exchange of class `deviceInterrupt` (R545). -/
  | exchange
  /-- Through the Service Pointer Table. -/
  | pointerTable (t : ServiceTable)
  /-- The platform's own function, `Config.deviceService`. -/
  | supplied
  deriving DecidableEq, Repr

/-- The parameters the source leaves open (00_scope.md R6). No instruction changes them. -/
structure Platform where
  /-- `MEM_PRESENT`: the installed byte addresses, as half-open ranges (20_memory.md R71). -/
  installed : List (Nat × Nat)
  /-- `fpr_addr` and `FPR_VALID`: the 18-bit address of each valid floating-point register (10_state.md R34). -/
  fprAddress : Vector (Option (BitVec 18)) 16
  /-- Vector of the Illegal Instruction Interrupt. -/
  illegal : InterruptVector
  /-- Vector of the Fixed-Point Divide Fault Interrupt. -/
  divide : InterruptVector
  /-- Vector of the Floating-Point Arithmetic Fault Interrupt. -/
  float : InterruptVector
  /-- Vector of the device interrupt. The service saves a location counter of its own, so `savesNext` means nothing. -/
  device : InterruptVector
  /-- `AER_ALIAS_3A`: operation code X'3A' also decodes as AER (30_encoding.md R113). -/
  aerAlias3A : Bool
  /-- `fp_add_guard`: hexadecimal guard digits kept while a fraction is aligned (45_floating_point.md R321). -/
  addGuardDigits : Nat
  /-- `fp_mul_round`. -/
  mulRound : Rounding
  /-- `fp_div_round`. -/
  divRound : Rounding
  /-- `IRQ_POLICY.enabled`: the values of the Program Status under which device interrupts are looked for; a list, so
  that every predicate on the 16 bits can be given (60_exceptions.md R547). -/
  interruptStatuses : List Half
  /-- `device_interrupt_service`. -/
  service : DeviceService
  /-- What happens where the source leaves a result undefined and the spec refuses; the model's own (logs 17, 18). -/
  undefined : UndefinedPolicy
  deriving DecidableEq, Repr

/-- The vector of an interrupt class. -/
def Platform.vector (p : Platform) (k : Interrupt) : InterruptVector :=
  match k with
  | .illegalInstruction => p.illegal
  | .fixedPointDivideFault => p.divide
  | .floatingPointFault => p.float
  | .deviceInterrupt => p.device

/-- The spec's defaults: all 2^18 bytes installed; eight floating-point registers with even numbers, register
r at address 2 r of bank 0 (D20); the Interdata vector locations (D7) and the saved location counters of D8;
no alias of AER; no guard digit and rounding half up (D22); no device interrupt and no service (D36); a refusal for an
operand that is not normalized (D38) and for a quotient of magnitude 32768 (D19).
PRESUMED (logs 11, 14), DESIGN CHOICE (logs 12, 13, 16, 34, 40); unsafe. -/
def Config.platform : Platform where
  installed := [(0, 262144)]
  fprAddress := #v[some 0, none, some 4, none, some 8, none, some 12, none,
    some 16, none, some 20, none, some 24, none, some 28, none]
  illegal := { old := 0x0030, new := 0x0034, savesNext := false }
  divide := { old := 0x0048, new := 0x004C, savesNext := true }
  float := { old := 0x0028, new := 0x002C, savesNext := true }
  aerAlias3A := false
  addGuardDigits := 0
  mulRound := .halfUp
  divRound := .halfUp
  device := { old := 0x0040, new := 0x0044, savesNext := true }
  interruptStatuses := []
  service := .notSpecified
  undefined := .refused

/-- One answer of the device oracle (47_io_and_list.md R361). An instruction reads the fields its own
operation has; the others mean nothing to it. -/
structure DeviceAnswer where
  /-- No synchronize signal came in time: the operation was not performed (R362). -/
  timeout : Bool
  /-- `Device.command`: the device cannot complete the command action. -/
  fail : Bool
  /-- `Device.ack`: the number of the interrupting device. -/
  device : Byte
  /-- `Device.sense`, `Device.ack`: the status byte. -/
  status : Byte
  /-- `Device.read8`: the data byte. -/
  byte : Byte
  /-- `Device.read16`: the halfword, the first byte of a byte oriented controller leftmost. -/
  half : Half
  /-- `Device.block_in`, `Device.autoload`: the bytes the device delivers, in order. -/
  bytes : List Byte
  /-- `Device.block_out`: how many bytes the device accepts. -/
  accepted : Nat
  /-- The condition after a block operation. -/
  cc : BitVec 4
  deriving DecidableEq, Repr, Inhabited

/-- What a platform's own device service does. The location counter and the Condition Code afterwards are in `psw`. A
request stays until AI or AIR clears it (60_exceptions.md R547). -/
structure ServiceEffect where
  /-- General registers. -/
  regs : Vector Half 16
  /-- Program Status Word. -/
  psw : Full
  /-- Bytes stored, in order: bank, address, byte. -/
  stores : List (Bank × Half × Byte)
  deriving DecidableEq, Repr, Inhabited

/-- The service a platform supplies, for each device number and draw (60_exceptions.md R548). -/
opaque Config.deviceService : Byte → Nat → ServiceEffect
/-- `fp_mul_round` of a platform that supplies it: of the 48-bit product (45_floating_point.md R323). -/
opaque Config.productRounding : Nat → RoundStep
/-- `fp_div_round` of a platform that supplies it: of the truncated quotient, the remainder and the divisor (R323). -/
opaque Config.quotientRounding : Nat → Nat → Nat → RoundStep

/-- A free bit for each draw: an undefined flag (00_scope.md R10), or a choice the spec leaves open. -/
opaque Config.freeBit : Nat → Bool
/-- A free halfword for each draw. -/
opaque Config.freeHalf : Nat → Half
/-- A free fullword for each draw: normalized, the result of an operation on an unnormalized operand (45 R302). -/
opaque Config.freeFull : Nat → Full
/-- A free condition of a block operation for each draw (47 R361). -/
opaque Config.freeCondition : Nat → BitVec 4
/-- The oracle's answer for each draw when no answer is queued (47 R361). -/
opaque Config.deviceAnswer : Nat → DeviceAnswer

/-- Annex: a free word for each draw. -/
opaque Config.centralWord : Nat → CWord
/-- Annex: the location specified by Y and R, for each draw; the rule that forms it is not in the source
(49 R454). -/
opaque Config.centralLocation : Nat → BitVec 4 → BitVec 9 → CWord
/-- Annex: a register plus one where the annex does not say how it counts on: negative or largest (49 R500). -/
opaque Config.centralIncrement : CWord → CWord
/-- Annex: the Gray code conversion of CGC (49 R486). -/
opaque Config.centralGray : CWord → CWord
/-- Annex: which of F1 to F10 each N bit, counted from the left, stands for: one to one (49 R504, R505). -/
opaque Config.centralIndicator : Equiv.Perm (Fin 10)
/-- Annex: which of the 13 low accumulator bits, counted from the right, holds each of the thirteen
indicators in PIA and PAI: one to one (49 R508, R509). -/
opaque Config.centralSenseBit : Equiv.Perm (Fin 13)
/-- Annex: which bits of A form the address of a page register, that of least weight first: the first eight of a free
order of its 18 bits (49 R500). -/
opaque Config.centralPageBits : Equiv.Perm (Fin 18)
/-- Annex: the page register an accumulator value addresses. Each of the 256 is addressed by some value (49 R500,
R501; log 49). -/
def Config.centralPage (a : CWord) : BitVec 8 :=
  BitVec.ofFnLE fun k : Fin 8 => a.getLsbD (Config.centralPageBits (k.castLE (by decide))).val
/-- Annex: whether LPR of page register 0 still increments A and Q (49 R500). -/
opaque Config.centralPageZeroCounts : Bool
/-- Annex: the value that resetting a lock register leaves (49 R468). -/
opaque Config.centralLockReset : BitVec 10

end Sys2Proof
end

