-- ==== Sys2Proof/Machine/State.lean ====
section
/-! DEFINITION. State of the machine as plain data, the reasons a step can stop, and the state after reset
(10_state.md; 93_implementation_defined.md section 2; 49_annex_central_computer.md R452). -/

namespace Sys2Proof.Machine

/-- Model faults: the source lays a duty on software and does not say what the hardware does when it is
broken (00_scope.md R9). All are safe: nothing can be proved past them. -/
inductive Fault where
  /-- A halfword or fullword access, or a list, at an odd address (20_memory.md R64 to R66). Raised by the
  halfword read and write operations and by the list instructions. Safe. -/
  | misaligned
  /-- An instruction fetch with an odd location counter (10_state.md R25). Raised by the fetch. Safe. -/
  | oddLocation
  /-- An access outside the installed memory (20_memory.md R71). Raised by every memory operation. Safe. -/
  | noMemory
  deriving DecidableEq, Repr

/-- Refusals: the source gives the situation no meaning (00_scope.md R9). All are safe. -/
inductive Refusal where
  /-- An instruction without a meaning in the model, by its mnemonic. Raised by an arm of `exec` only. Safe. -/
  | notModelled (mnemonic : String)
  /-- An odd R1 where the source asks for an even one: MH, MHR, MHU, MHUR, DH, DHR and the fullword shifts and
  rotates (30_encoding.md R114). Safe. -/
  | oddPairRegister
  /-- A nonzero R1 field in LPSW, SINT or AL (30_encoding.md R114). Safe. -/
  | r1MustBeZero
  /-- R1 above 13 in BXH or BXLE, R2 = 15 in RBR or WBR (30_encoding.md R114). Safe. -/
  | registerBeyondMax
  /-- R1 = 15 in EPPR (30_encoding.md R114). Safe. -/
  | pairBeyondR15
  /-- A number that names no floating-point register (10_state.md R34). Raised by the floating-point
  instructions. Safe. -/
  | fprInvalid
  /-- One of the 27 operations the source only lists (48_listed_only.md R410). Safe. -/
  | listedOnly
  /-- SINT on a platform without a device service (46_system_control.md R344). Safe. -/
  | sintNotSpecified
  /-- A device interrupt that the platform enables without a device service (60_exceptions.md R548).
  Raised by `step` before the fetch. Safe. -/
  | deviceInterruptNotSpecified
  /-- An operand that is neither normalized nor true zero, on a platform that refuses it (45_floating_point.md R302).
  Raised by floating-point add, subtract, compare, multiply and divide. Safe. -/
  | fpUnnormalized
  /-- A quotient of magnitude 32768, on a platform that refuses it (41_fixed_point_arithmetic.md R191). Raised by DH
  and DHR. Safe. -/
  | divideQuotientBoundary
  /-- A list whose parameters are inconsistent (47_io_and_list.md R390). Raised by the list instructions. Safe. -/
  | listInconsistent
  /-- Annex: LCK in a single processor with the ignore lock switch off, which is not described (49 R467). Safe. -/
  | centralLockNotSpecified
  deriving DecidableEq, Repr

/-- Main memory: the bytes that differ from what an unlisted address reads as, by strictly rising address. -/
abbrev Memory := List Host.Cell

/-- What an address that no entry lists reads as. DESIGN CHOICE (log 3), unsafe. -/
def unlistedByte : Byte := 0

/-- A sparse store of Central Computer words by address, in the same canonical form; an unlisted word is 0. -/
abbrev WordStore := List (Nat × CWord)

/-- What the processor has sent to a device: one entry for each device operation (47_io_and_list.md R361). -/
inductive DeviceRequest where
  /-- Ask device `d` for its status. -/
  | sense (d : Byte)
  /-- Ask the interrupting device for its number and status. -/
  | ack
  /-- Send command `c` to device `d`. -/
  | command (d c : Byte)
  /-- Ask device `d` for a byte. -/
  | read8 (d : Byte)
  /-- Send byte `b` to device `d`. -/
  | write8 (d b : Byte)
  /-- Ask device `d` for a halfword. -/
  | read16 (d : Byte)
  /-- Send halfword `h` to device `d`. -/
  | write16 (d : Byte) (h : Half)
  /-- Ask device `d` for `k` bytes. -/
  | blockIn (d : Byte) (k : Nat)
  /-- Send bytes to device `d`. -/
  | blockOut (d : Byte) (bytes : List Byte)
  /-- Send command `c` to device `d` and ask it for `k` bytes after its leader. -/
  | autoload (d c : Byte) (k : Nat)
  deriving DecidableEq, Repr

/-- What the Central Computer has sent to its console and channels (49 R511 to R523). -/
inductive CentralAction where
  /-- EXF: a command word to a BIO channel (R511). -/
  | external (channel : BitVec 3) (word : CWord)
  /-- TWA: keyboard entry enabled (R513). -/
  | keyboardOn
  /-- TWF: keyboard entry inhibited (R514). -/
  | keyboardOff
  /-- OTW: a BCD character to the printer (R515). -/
  | printed (character : BitVec 6)
  /-- CTA: unload the block buffer, then read the playback cassette (R517). -/
  | tapeAdvance
  /-- CTS: stop the playback cassette (R518). -/
  | tapeStop
  /-- CTR: rewind the playback cassette (R519). -/
  | tapeRewind
  /-- PMO: the recording cassette to Record-On Mode (R520). -/
  | recordOn
  /-- PMF: fill the block buffer with NULL characters and cease recording (R521). -/
  | recordOff (nulls : Nat)
  /-- OPA: six bits and their parity bit (R522). -/
  | frame6 (bits : BitVec 6) (parity : Bool)
  /-- OPB: seven bits and their parity bit (R523). -/
  | frame7 (bits : BitVec 7) (parity : Bool)
  deriving DecidableEq, Repr

/-- The state of the annex machine (49 R452). -/
structure Central where
  /-- Accumulator. -/
  acc : CWord
  /-- Q register. -/
  q : CWord
  /-- Program counter (width: log 45). No page register takes part in its use (log 49). -/
  pc : CWord
  /-- Index registers 1 to 12; entry k holds register k + 1 (width: log 45). One bank, and no selection of another: the
  number of banks and how one is specified are not in the source (R525(c)); DESIGN CHOICE, log 57, unsafe. -/
  index : Vector CWord 12
  /-- Overflow Indicator. -/
  overflow : Bool
  /-- Divide check indicator. -/
  divideCheck : Bool
  /-- Compare indicator high. -/
  compareHigh : Bool
  /-- Compare indicator low. -/
  compareLow : Bool
  /-- Indicators F1 to F10; entry k holds F(k + 1). -/
  indicators : Vector Bool 10
  /-- This processor's lock register (width: log 45). -/
  lock : BitVec 10
  /-- The lock register of processor B. -/
  otherLock : BitVec 10
  /-- Dual processor configuration. -/
  dual : Bool
  /-- The ignore lock switch. -/
  ignoreLockSwitch : Bool
  /-- Page registers 0 to 255. -/
  pages : WordStore
  /-- Block Indicators of each BIO channel: two spare, two usable. -/
  blockIndicators : Vector (BitVec 4) 8
  /-- Sense control switches, in the order of the N bits. -/
  switches : BitVec 10
  /-- 7 Level pushbutton. -/
  level7 : Bool
  /-- Illegal instruction restart pushbutton. -/
  restartEnabled : Bool
  /-- Illegal instruction indicator. -/
  illegalIndicator : Bool
  /-- Temporary register T. Its width is not in the source: that of the program counter; DESIGN CHOICE, log 45. -/
  tRegister : CWord
  /-- Console Buffer Register. Its width is not in the source: 7 bits, as IPC and OPB use; DESIGN CHOICE, log 45. -/
  consoleBuffer : BitVec 7
  /-- Console Not Busy Indicator. -/
  consoleNotBusy : Bool
  /-- Keyboard Enable Light. -/
  keyboardLight : Bool
  /-- Channels 0 to 3 exist. -/
  lowChannels : Bool
  /-- Channels 4 to 7 exist. -/
  highChannels : Bool
  /-- Memory of 18-bit words. Its size is not in the source (R525(b)): 2^18 words, one for each address of 18 bits;
  DESIGN CHOICE, log 45, unsafe. -/
  mem : WordStore
  /-- What was sent out, oldest first; the model's own log. -/
  actions : List CentralAction
  deriving DecidableEq, Repr

/-- Which processor takes the next step (log 41). -/
inductive Processor where
  /-- The HMP-1116. -/
  | controller
  /-- The annex machine. -/
  | central
  deriving DecidableEq, Repr

/-- The state of the machine. The Program Status Word is the three fields `control`, `cc` and `loc`
(10_state.md R23). -/
structure State where
  /-- General registers R0 to R15 (10_state.md R20). -/
  regs : Vector Half 16
  /-- PSW(0:11): operational control (R23, R27 to R32). -/
  control : BitVec 12
  /-- PSW(12:15): Condition Code C V G L (R26). -/
  cc : BitVec 4
  /-- PSW(16:31): location counter (R24). -/
  loc : Half
  /-- Main memory (R35). -/
  mem : Memory
  /-- Numbers of the devices that request an interrupt (R38, 60 R547). -/
  pending : List Byte
  /-- Answers the devices will give, next first (47 R361); the model's own field. -/
  answers : List DeviceAnswer
  /-- What was sent to devices, oldest first; the model's own log. -/
  requests : List DeviceRequest
  /-- How many free values have been drawn; the model's own counter. -/
  draws : Nat
  /-- The implementation's parameters (00_scope.md R6). -/
  platform : Platform
  /-- The annex machine. -/
  central : Central
  /-- The processor that takes the next step; the model's own selector. -/
  active : Processor
  deriving DecidableEq, Repr

/-- The annex machine after reset. The annex gives no reset value: DESIGN CHOICE (log 44), unsafe. F7 is
always set in the single processor configuration (49 R505). -/
def Central.reset : Central where
  acc := 0
  q := 0
  pc := 0
  index := Vector.replicate 12 0
  overflow := false
  divideCheck := false
  compareHigh := false
  compareLow := false
  indicators := (Vector.replicate 10 false).set 6 true
  lock := 0
  otherLock := 0
  dual := false
  ignoreLockSwitch := true
  pages := []
  blockIndicators := Vector.replicate 8 0
  switches := 0
  level7 := false
  restartEnabled := false
  illegalIndicator := false
  tRegister := 0
  consoleBuffer := 0
  consoleNotBusy := true
  keyboardLight := false
  lowChannels := true
  highChannels := true
  mem := []
  actions := []

/-- The machine right after reset. The source gives no reset value for anything (10_state.md R40): each value
is a DESIGN CHOICE (logs 1, 2, 3, 20, 30, 41, 55), unsafe. The launch is Supervisor Mode with both banks 0 (D9). -/
def State.reset : State where
  regs := Vector.replicate 16 0
  control := 0
  cc := 0
  loc := 0
  mem := []
  pending := []
  answers := []
  requests := []
  draws := 0
  platform := Config.platform
  central := Central.reset
  active := .controller

end Sys2Proof.Machine
end

