-- ==== Sys2Proof/Machine/Store.lean ====
section
/-! DEFINITION. Sparse stores in canonical form: lists of address and value pairs, addresses strictly rising, no
entry equal to the value an unlisted address reads as. Main memory and the annex's memories are such stores. -/

namespace Sys2Proof.Machine

/-- The value at address `k`; `d` where no entry lists it. -/
def readStore {α : Type} (d : α) : List (Nat × α) → Nat → α
  | [], _ => d
  | c :: m, k => if c.1 = k then c.2 else readStore d m k

/-- Inserts an entry before the first entry of a higher address. -/
def insertStore {α : Type} : List (Nat × α) → Nat → α → List (Nat × α)
  | [], k, v => [(k, v)]
  | c :: m, k, v => if k < c.1 then (k, v) :: c :: m else c :: insertStore m k v

/-- Writes `v` at address `k`: any entry of `k` goes, and a new one comes unless `v` is what an unlisted
address reads as. -/
def writeStore {α : Type} [DecidableEq α] (d : α) (m : List (Nat × α)) (k : Nat) (v : α) : List (Nat × α) :=
  let rest := m.filter fun c => c.1 != k
  if v = d then rest else insertStore rest k v

/-- The canonical form of a store. -/
abbrev StoreWf {α : Type} (d : α) (m : List (Nat × α)) : Prop :=
  m.Pairwise (fun a b => a.1 < b.1) ∧ ∀ c ∈ m, c.2 ≠ d

/-- The canonical form of main memory. -/
abbrev Memory.wf (m : Memory) : Prop := StoreWf unlistedByte m

/-- One byte of main memory at an 18-bit address. -/
def readCell (m : Memory) (a : Nat) : Byte := readStore unlistedByte m a

/-- Main memory with one byte written. -/
def writeCell (m : Memory) (a : Nat) (v : Byte) : Memory := writeStore unlistedByte m a v

end Sys2Proof.Machine
end

