-- ==== Sys2Proof/Machine/Ops.lean ====
section
/-! DEFINITION. The named operations over registers, the Program Status Word and memory, taking an interrupt and
returning from one (10_state.md, 20_memory.md, 60_exceptions.md). -/

namespace Sys2Proof.Machine

/-- What an instruction or a step answers. -/
abbrev Result := Host.Outcome State Fault Refusal

/-- Goes on with the value of an access that may fault. -/
def attempt {α : Type} (r : Except Fault α) (k : α → Result) : Result :=
  match r with
  | .ok a => k a
  | .error f => .fault f

/-! General registers -/

/-- `x[r]` (00_scope.md R9). -/
def State.reg (s : State) (r : Reg) : Half := s.regs[r.val]

/-- `x[r] <- v`. No register is hardwired (10_state.md R20). -/
def State.setReg (s : State) (r : Reg) (v : Half) : State := { s with regs := s.regs.set r.val v }

/-- `pair(r)`: register r holds the most significant half (10_state.md R21). -/
def State.pair (s : State) (r : Reg) : Full := s.reg r ++ s.reg (r + 1)

/-- `pair(r) <- v`. -/
def State.setPair (s : State) (r : Reg) (v : Full) : State :=
  (s.setReg r (v.extractLsb' 16 16)).setReg (r + 1) (v.extractLsb' 0 16)

/-! Program Status Word -/

/-- `PS = PSW(0:15)`, the Program Status. -/
def State.ps (s : State) : Half := s.control ++ s.cc

/-- `PSW(0:31)`. -/
def State.psw (s : State) : Full := s.ps ++ s.loc

/-- `PSW(0:15) <- p`. -/
def State.setPs (s : State) (p : Half) : State :=
  { s with control := p.extractLsb' 4 12, cc := p.extractLsb' 0 4 }

/-- `pc <- t`. -/
def State.setLoc (s : State) (t : Half) : State := { s with loc := t }

/-- `PSW(0:31) <- w`. -/
def State.setPsw (s : State) (w : Full) : State :=
  (s.setPs (w.extractLsb' 16 16)).setLoc (w.extractLsb' 0 16)

/-- `CC <- c`. -/
def State.setCC (s : State) (c : BitVec 4) : State := { s with cc := c }

/-- `pc <- LOC + len`, modulo 2^16 (10_state.md R25). -/
def State.advance (s : State) (len : Half) : State := { s with loc := s.loc + len }

/-- FDE, PSW bit 3 (10_state.md R27). -/
def State.fde (s : State) : Bool := s.control.getMsbD 3
/-- FPE, PSW bit 5 (R28). -/
def State.fpe (s : State) : Bool := s.control.getMsbD 5
/-- PROT, PSW bit 7: Protect Mode (R29). -/
def State.prot (s : State) : Bool := s.control.getMsbD 7
/-- PBANK, PSW(8:9): the bank of instruction fetch (R30). DEDUCED, log 6, unsafe. -/
def State.pbank (s : State) : Bank := s.control.extractLsb' 2 2
/-- OBANK, PSW(10:11): the operand bank (R31). -/
def State.obank (s : State) : Bank := s.control.extractLsb' 0 2
/-- `OBANK <- b`. -/
def State.setObank (s : State) (b : Bank) : State :=
  { s with control := s.control.extractLsb' 2 10 ++ b }
/-- `PSW(8:11) <- b`. -/
def State.setBanks (s : State) (b : BitVec 4) : State :=
  { s with control := s.control.extractLsb' 4 8 ++ b }
/-- C, PSW bit 12. -/
def State.carry (s : State) : Bool := s.cc.getMsbD 0

/-! Free values -/

/-- The state after `n` free values have been drawn. -/
def State.drawn (s : State) (n : Nat) : State := { s with draws := s.draws + n }

/-- The k-th next free bit. -/
def State.freeBit (s : State) (k : Nat) : Bool := Config.freeBit (s.draws + k)

/-! Main memory -/

/-- `addr18(b, e)` (00_scope.md R9). -/
def addr18 (b : Bank) (e : Half) : Nat := b.toNat * 65536 + e.toNat

/-- An address holds memory (20_memory.md R71). -/
def State.present (s : State) (a : Nat) : Bool :=
  s.platform.installed.any fun r => decide (r.1 ≤ a) && decide (a < r.2)

/-- The byte at address `e` of bank `b`, whatever is installed there. -/
def State.byteAt (s : State) (b : Bank) (e : Half) : Byte := readCell s.mem (addr18 b e)

/-- The halfword at `e` and `e + 1` of bank `b`, the more significant byte first (20_memory.md R62). -/
def State.halfAt (s : State) (b : Bank) (e : Half) : Half := s.byteAt b e ++ s.byteAt b (e + 1)

/-- The fullword at `e` of bank `b`: two halfwords, the more significant first (R62), in one bank (R79). -/
def State.fullAt (s : State) (b : Bank) (e : Half) : Full := s.halfAt b e ++ s.halfAt b (e + 2)

/-- Stores one byte at address `e` of bank `b`. -/
def State.putByte (s : State) (b : Bank) (e : Half) (v : Byte) : State :=
  { s with mem := writeCell s.mem (addr18 b e) v }

/-- Stores a halfword, the more significant byte first. -/
def State.putHalf (s : State) (b : Bank) (e v : Half) : State :=
  (s.putByte b e (v.extractLsb' 8 8)).putByte b (e + 1) (v.extractLsb' 0 8)

/-- Stores a fullword, the more significant halfword first. -/
def State.putFull (s : State) (b : Bank) (e : Half) (v : Full) : State :=
  (s.putHalf b e (v.extractLsb' 16 16)).putHalf b (e + 2) (v.extractLsb' 0 16)

/-- A byte access: any address that holds memory (20_memory.md R66, R71). -/
def State.checkByte (s : State) (b : Bank) (e : Half) : Except Fault Unit :=
  if s.present (addr18 b e) then .ok () else .error .noMemory

/-- A halfword access: an even address, both bytes of which hold memory (20_memory.md R64, R71). -/
def State.checkHalf (s : State) (b : Bank) (e : Half) : Except Fault Unit :=
  if e.getLsbD 0 then .error .misaligned
  else if s.present (addr18 b e) && s.present (addr18 b (e + 1)) then .ok ()
  else .error .noMemory

/-- A fullword access: two halfword accesses (20_memory.md R65). -/
def State.checkFull (s : State) (b : Bank) (e : Half) : Except Fault Unit :=
  match s.checkHalf b e with
  | .ok _ => s.checkHalf b (e + 2)
  | .error f => .error f

/-- `Mem8(b, e)`. -/
def State.readByte (s : State) (b : Bank) (e : Half) : Except Fault Byte :=
  (s.checkByte b e).map fun _ => s.byteAt b e

/-- `Mem16(b, e)`. -/
def State.readHalf (s : State) (b : Bank) (e : Half) : Except Fault Half :=
  (s.checkHalf b e).map fun _ => s.halfAt b e

/-- `Mem32(b, e)`. -/
def State.readFull (s : State) (b : Bank) (e : Half) : Except Fault Full :=
  (s.checkFull b e).map fun _ => s.fullAt b e

/-- `Mem8(b, e) <- v`. -/
def State.writeByte (s : State) (b : Bank) (e : Half) (v : Byte) : Except Fault State :=
  (s.checkByte b e).map fun _ => s.putByte b e v

/-- `Mem16(b, e) <- v`. -/
def State.writeHalf (s : State) (b : Bank) (e v : Half) : Except Fault State :=
  (s.checkHalf b e).map fun _ => s.putHalf b e v

/-- `Mem32(b, e) <- v`. -/
def State.writeFull (s : State) (b : Bank) (e : Half) (v : Full) : Except Fault State :=
  (s.checkFull b e).map fun _ => s.putFull b e v

/-- Reads `n` successive halfwords from `e` on, wrapping in the bank (20_memory.md R79). -/
def State.readHalves (s : State) (b : Bank) (e : Half) : Nat → Except Fault (List Half)
  | 0 => .ok []
  | n + 1 =>
    match s.readHalf b e with
    | .ok v => (s.readHalves b (e + 2) n).map (v :: ·)
    | .error f => .error f

/-- Writes successive halfwords from `e` on, wrapping in the bank. -/
def State.writeHalves (s : State) (b : Bank) (e : Half) : List Half → Except Fault State
  | [] => .ok s
  | v :: vs =>
    match s.writeHalf b e v with
    | .ok t => t.writeHalves b (e + 2) vs
    | .error f => .error f

/-- Reads `n` successive bytes from `e` on. -/
def State.readBytes (s : State) (b : Bank) (e : Half) : Nat → Except Fault (List Byte)
  | 0 => .ok []
  | n + 1 =>
    match s.readByte b e with
    | .ok v => (s.readBytes b (e + 1) n).map (v :: ·)
    | .error f => .error f

/-- Writes successive bytes from `e` on. -/
def State.writeBytes (s : State) (b : Bank) (e : Half) : List Byte → Except Fault State
  | [] => .ok s
  | v :: vs =>
    match s.writeByte b e v with
    | .ok t => t.writeBytes b (e + 1) vs
    | .error f => .error f

/-- Writes bytes at addresses of their own, in order. -/
def State.writeEach (s : State) : List (Bank × Half × Byte) → Except Fault State
  | [] => .ok s
  | (b, e, v) :: l =>
    match s.writeByte b e v with
    | .ok t => t.writeEach l
    | .error f => .error f

/-! Interrupts -/

/-- The Program Status Word exchange of 60_exceptions.md R545 with a given saved location counter: the Old PSW goes to
`old`, then the New PSW comes from `new`, both in bank 0. Nothing else is saved. -/
def exchangePsw (old new saved : Half) (s : State) : Result :=
  attempt (s.writeFull 0 old (s.ps ++ saved)) fun t =>
    attempt (t.readFull 0 new) fun w => .next (t.setPsw w)

/-- The exchange of class `k`, at `VEC_OLD(k)` and `VEC_NEW(k)` (R545). -/
def raiseSaving (k : Interrupt) (saved : Half) (s : State) : Result :=
  exchangePsw (s.platform.vector k).old (s.platform.vector k).new saved s

/-- The location counter an interrupt of class `k` saves when an instruction of `len` bytes raises it:
`FAULT_SAVED_LOC(k)` (60_exceptions.md R545). -/
def State.savedLoc (s : State) (k : Interrupt) (len : Half) : Half :=
  if (s.platform.vector k).savesNext then s.loc + len else s.loc

/-- `raise k` from an instruction of `len` bytes. -/
def raise (k : Interrupt) (len : Half) (s : State) : Result := raiseSaving k (s.savedLoc k len) s

/-- The Illegal Instruction Interrupt of an unassigned operation code (60_exceptions.md R542). Such a code has no
length (R113), so a platform that saves a successor saves a free value. -/
def raiseUnassigned (s : State) : Result :=
  if s.platform.illegal.savesNext then
    raiseSaving .illegalInstruction (Config.freeHalf s.draws) (s.drawn 1)
  else raiseSaving .illegalInstruction s.loc s

/-- Where the Service Pointer Table holds the entry of a device, in bank 0 (60_exceptions.md R548). An entry beyond
X'FFFF' is not spoken of: the sum wraps modulo 2^16, and so does that of an entry and `newOffset`. DESIGN CHOICE, log 34;
unsafe for such a table. -/
def serviceEntryAt (p : ServiceTable) (dev : Byte) : Half := 0x00D0 + BitVec.ofNat 16 (p.entrySize * dev.toNat)

/-- The service a platform supplies: its effect is uninterpreted (R548), but for the requests, which stay (R547). A store
outside the installed memory faults, as any access does (20_memory.md R71). -/
def suppliedService (dev : Byte) (s : State) : Result :=
  let e := Config.deviceService dev s.draws
  attempt (State.writeEach { s.drawn 1 with regs := e.regs } e.stores) fun t =>
    .next (t.setPsw e.psw)

/-- `device_interrupt_service(dev)`, saving the location counter of the state it is given. `absent` is the refusal of a
platform without a definition. Through the Service Pointer Table an entry is an Immediate Interrupt, a Program Status
Word exchange at the entry, or an I/O channel operation, whose effect is the platform's own (60_exceptions.md R548; the
table form is PRESUMED, log 34). -/
def deviceService (absent : Refusal) (dev : Byte) (s : State) : Result :=
  match s.platform.service with
  | .notSpecified => .refused absent
  | .exchange => raiseSaving .deviceInterrupt s.loc s
  | .pointerTable p =>
    attempt (s.readHalf 0 (serviceEntryAt p dev)) fun entry =>
      if entry &&& p.channelMask = 0 then exchangePsw entry (entry + p.newOffset) s.loc s
      else suppliedService dev s
  | .supplied => suppliedService dev s

/-- A privileged instruction of `len` bytes: in Protect Mode it takes the Illegal Instruction Interrupt and has no
effect of its own (60_exceptions.md R541). -/
def privileged (len : Half) (s : State) (k : Result) : Result :=
  if s.prot then raise .illegalInstruction len s else k

/-- The return from an interrupt: all 32 bits of the PSW from a fullword read through the operand bank in force
(46_system_control.md R340, 60_exceptions.md R551; D25, log 26). -/
def loadPsw (e : Half) (s : State) : Result :=
  attempt (s.readFull s.obank e) fun w => .next (s.setPsw w)

end Sys2Proof.Machine
end

