-- ==== Sys2Proof/Machine/Operands.lean ====
section
/-! DEFINITION. Operand forms (30_encoding.md R107 to R111, 20_memory.md R61, R63, 43_shift_rotate.md R253,
47_io_and_list.md R360). -/

namespace Sys2Proof.Machine

/-- `idx(X2)`: field value 0 means no index (30_encoding.md R108). PRESUMED, log 5, unsafe. -/
def State.index (s : State) (x2 : Reg) : Half := if x2 = 0 then 0 else s.reg x2

/-- `(A2 + idx(X2)) mod 65536`: the RX address `ea16` (20_memory.md R61) and the RI operand (30_encoding.md R109). -/
def State.sum (s : State) (a2 : Half) (x2 : Reg) : Half := a2 + s.index x2

/-- The short-format literal, zero-extended (30_encoding.md R107). -/
def literal (n : BitVec 4) : Half := n.setWidth 16

/-- The halfword second operand of an RX instruction, in the operand bank (20_memory.md R61, R64). -/
def State.operandHalf (s : State) (a2 : Half) (x2 : Reg) : Except Fault Half :=
  s.readHalf s.obank (s.sum a2 x2)

/-- The fullword second operand of an RX instruction, in the operand bank (20_memory.md R65). -/
def State.operandFull (s : State) (a2 : Half) (x2 : Reg) : Except Fault Full :=
  s.readFull s.obank (s.sum a2 x2)

/-- The byte second operand of an RX instruction, in the operand bank (20_memory.md R66). -/
def State.operandByte (s : State) (a2 : Half) (x2 : Reg) : Except Fault Byte :=
  s.readByte s.obank (s.sum a2 x2)

/-- The right-most byte of a halfword, bits 8:15. -/
def lowByte (v : Half) : Byte := v.extractLsb' 0 8

/-- The left-most byte of a halfword, bits 0:7. -/
def highByte (v : Half) : Byte := v.extractLsb' 8 8

/-- A byte as a register holds it, the left-most byte zero. -/
def zextByte (v : Byte) : Half := v.setWidth 16

/-- The shift count of the halfword RI shifts: bits 12:15 of the sum (43_shift_rotate.md R253). -/
def State.shiftCount4 (s : State) (i2 : Half) (x2 : Reg) : Nat := ((s.sum i2 x2).extractLsb' 0 4).toNat

/-- The shift count of the fullword shifts and rotates: bits 11:15 of the sum (43_shift_rotate.md R253). -/
def State.shiftCount5 (s : State) (i2 : Half) (x2 : Reg) : Nat := ((s.sum i2 x2).extractLsb' 0 5).toNat

/-- The device number in R1, bits 8:15; bits 0:7 are ignored (47_io_and_list.md R360; D29, log 29). -/
def State.device (s : State) (r1 : Reg) : Byte := lowByte (s.reg r1)

/-- An even R1, or the refusal of 30_encoding.md R114. -/
def evenPair (r1 : Reg) (k : Result) : Result :=
  if r1.val % 2 = 0 then k else .refused .oddPairRegister

/-- A register field at most `max`, or the refusal of 30_encoding.md R114. -/
def atMost (max : Nat) (r : Reg) (k : Result) : Result :=
  if r.val ≤ max then k else .refused .registerBeyondMax

/-- A zero R1 field, or the refusal of 30_encoding.md R114. -/
def zeroField (r1 : Reg) (k : Result) : Result :=
  if r1 = 0 then k else .refused .r1MustBeZero

end Sys2Proof.Machine
end

