-- ==== Sys2Proof/Machine/Flags.lean ====
section
/-! DEFINITION. Condition Code computations: one for each chart of the source (00_scope.md R10). An undefined flag
is a fresh free bit (D13, log 20). -/

namespace Sys2Proof.Machine

/-- The Condition Code C V G L. -/
def ccOf (c v g l : Bool) : BitVec 4 := BitVec.ofBool c ++ BitVec.ofBool v ++ BitVec.ofBool g ++ BitVec.ofBool l

/-- G of `setGL_n(v)`: not zero and the most significant bit clear (00_scope.md R9). -/
def isPositive {n : Nat} (v : BitVec n) : Bool := v != 0 && !v.msb

/-- L of `setGL_n(v)`: the most significant bit. -/
def isNegative {n : Nat} (v : BitVec n) : Bool := v.msb

/-- `CC <- c v` and G, L from `v`. -/
def State.setResultCC {n : Nat} (s : State) (c v : Bool) (r : BitVec n) : State :=
  s.setCC (ccOf c v (isPositive r) (isNegative r))

/-- After a load or a logical operation: G and L from the result, C and V undefined (40_load_store.md R156,
42_logical_compare_byte.md R200). -/
def State.setLoadCC (s : State) (r : Half) : State :=
  (s.setResultCC (s.freeBit 0) (s.freeBit 1) r).drawn 2

/-- A 16-bit result with its carry or borrow and its overflow. -/
structure Arith where
  /-- The 16-bit result. -/
  value : Half
  /-- Carry of an add, borrow of a subtract. -/
  carry : Bool
  /-- Two's complement overflow. -/
  overflow : Bool
  deriving DecidableEq, Repr

/-- `add(a, b, cin)` of 41_fixed_point_arithmetic.md R170. -/
def addHalf (a b : Half) (cin : Bool) : Arith :=
  let t := a.toNat + b.toNat + cin.toNat
  let r := BitVec.ofNat 16 t
  { value := r, carry := decide (65536 ≤ t), overflow := a.msb == b.msb && r.msb != a.msb }

/-- `sub(a, b, cin)` of R170; the carry is the borrow. -/
def subHalf (a b : Half) (cin : Bool) : Arith :=
  let t := (a.toNat : Int) - b.toNat - cin.toNat
  let r := BitVec.ofInt 16 t
  { value := r, carry := decide (t < 0), overflow := a.msb != b.msb && r.msb != a.msb }

/-- After an add or a subtract: C, V from the operation, G and L from the 16-bit result (R170; D12, log 21). -/
def State.setArithCC (s : State) (r : Arith) : State := s.setResultCC r.carry r.overflow r.value

/-- After a logical compare of `n`-bit operands: C is the borrow, G and L follow the sign bit of the difference,
V is undefined (42_logical_compare_byte.md R217, R225; D14, D16, log 22). -/
def State.setLogicalCompareCC {n : Nat} (s : State) (a b : BitVec n) : State :=
  (s.setResultCC (decide (a.toNat < b.toNat)) (s.freeBit 0) (a - b)).drawn 1

/-- After an algebraic compare: G, L and C by the signed order, V undefined (R218; D15, log 23). -/
def State.setCompareCC (s : State) (a b : Half) : State :=
  (s.setCC (ccOf (decide (a.toInt < b.toInt)) (s.freeBit 0) (decide (b.toInt < a.toInt))
    (decide (a.toInt < b.toInt)))).drawn 1

/-- After a shift by `n` with result `r`: V reset, G and L from the result, C the last bit shifted out; after a
zero count C is undefined (43_shift_rotate.md R254; D17, log 20). -/
def State.setShiftCC {w : Nat} (s : State) (n : Nat) (out : Bool) (r : BitVec w) : State :=
  if n = 0 then (s.setResultCC (s.freeBit 0) false r).drawn 1 else s.setResultCC out false r

/-- After a rotate: C and V reset, G and L from the result (43_shift_rotate.md R255; D44, log 22). -/
def State.setRotateCC (s : State) (r : Full) : State := s.setResultCC false false r

/-- After Sense Status or Acknowledge Interrupt: the right-most four bits of the status byte
(47_io_and_list.md R362(a)). -/
def State.setStatusCC (s : State) (st : Byte) : State := s.setCC (st.extractLsb' 0 4)

/-- After a command or a byte or halfword transfer: V given, C, G and L undefined (47_io_and_list.md R362(b), (c);
D29, log 29). -/
def State.setTransferCC (s : State) (v : Bool) : State :=
  (s.setCC (ccOf (s.freeBit 0) v (s.freeBit 1) (s.freeBit 2))).drawn 3

end Sys2Proof.Machine
end

