-- ==== Sys2Proof/Machine/Arithmetic.lean ====
section
/-! DEFINITION. Fixed-point arithmetic instructions (41_fixed_point_arithmetic.md). -/

namespace Sys2Proof.Machine

/-- The result of an add or subtract replaces R1 (R170). -/
def arithInto (len : Half) (r1 : Reg) (r : Arith) (s : State) : State :=
  ((s.setReg r1 r.value).setArithCC r).advance len

/-- AIS (R171). -/
def execAis (r1 : Reg) (n : BitVec 4) (s : State) : Result :=
  .next (arithInto 2 r1 (addHalf (s.reg r1) (literal n) false) s)

/-- AHR (R172). -/
def execAhr (r1 r2 : Reg) (s : State) : Result :=
  .next (arithInto 2 r1 (addHalf (s.reg r1) (s.reg r2) false) s)

/-- AH (R173). -/
def execAh (r1 x2 : Reg) (a2 : Half) (s : State) : Result :=
  attempt (s.operandHalf a2 x2) fun b => .next (arithInto 4 r1 (addHalf (s.reg r1) b false) s)

/-- AHI: the operand sum is formed first and leaves no flag (R174; D28, log 25). -/
def execAhi (r1 x2 : Reg) (i2 : Half) (s : State) : Result :=
  .next (arithInto 4 r1 (addHalf (s.reg r1) (s.sum i2 x2) false) s)

/-- AHM: the sum replaces the memory halfword, R1 is unchanged (R175). -/
def execAhm (r1 x2 : Reg) (a2 : Half) (s : State) : Result :=
  attempt (s.operandHalf a2 x2) fun b =>
    let r := addHalf (s.reg r1) b false
    attempt (s.writeHalf s.obank (s.sum a2 x2) r.value) fun t => .next ((t.setArithCC r).advance 4)

/-- ACHR (R176). -/
def execAchr (r1 r2 : Reg) (s : State) : Result :=
  .next (arithInto 2 r1 (addHalf (s.reg r1) (s.reg r2) s.carry) s)

/-- ACH (R177; D46, log 21). -/
def execAch (r1 x2 : Reg) (a2 : Half) (s : State) : Result :=
  attempt (s.operandHalf a2 x2) fun b => .next (arithInto 4 r1 (addHalf (s.reg r1) b s.carry) s)

/-- SIS (R178). -/
def execSis (r1 : Reg) (n : BitVec 4) (s : State) : Result :=
  .next (arithInto 2 r1 (subHalf (s.reg r1) (literal n) false) s)

/-- SHR (R179). -/
def execShr (r1 r2 : Reg) (s : State) : Result :=
  .next (arithInto 2 r1 (subHalf (s.reg r1) (s.reg r2) false) s)

/-- SH (R180). -/
def execSh (r1 x2 : Reg) (a2 : Half) (s : State) : Result :=
  attempt (s.operandHalf a2 x2) fun b => .next (arithInto 4 r1 (subHalf (s.reg r1) b false) s)

/-- SHI (R181). -/
def execShi (r1 x2 : Reg) (i2 : Half) (s : State) : Result :=
  .next (arithInto 4 r1 (subHalf (s.reg r1) (s.sum i2 x2) false) s)

/-- SCHR: the old C is the borrow in (R182). -/
def execSchr (r1 r2 : Reg) (s : State) : Result :=
  .next (arithInto 2 r1 (subHalf (s.reg r1) (s.reg r2) s.carry) s)

/-- SCH (R183). -/
def execSch (r1 x2 : Reg) (a2 : Half) (s : State) : Result :=
  attempt (s.operandHalf a2 x2) fun b => .next (arithInto 4 r1 (subHalf (s.reg r1) b s.carry) s)

/-- The signed 32-bit product (R185). -/
def productSigned (a b : Half) : Full := BitVec.ofInt 32 (a.toInt * b.toInt)

/-- The 32-bit product of two magnitudes (R187). -/
def productUnsigned (a b : Half) : Full := BitVec.ofNat 32 (a.toNat * b.toNat)

/-- A product replaces the pair at R1; the Condition Code is unchanged (R184). -/
def productInto (len : Half) (r1 : Reg) (p : Full) (s : State) : State := (s.setPair r1 p).advance len

/-- MHR: the multiplicand is the content of R1 + 1 (R184, R185). -/
def execMhr (r1 r2 : Reg) (s : State) : Result :=
  evenPair r1 (.next (productInto 2 r1 (productSigned (s.reg (r1 + 1)) (s.reg r2)) s))

/-- MH (R186). -/
def execMh (r1 x2 : Reg) (a2 : Half) (s : State) : Result :=
  evenPair r1 (attempt (s.operandHalf a2 x2) fun b =>
    .next (productInto 4 r1 (productSigned (s.reg (r1 + 1)) b) s))

/-- MHUR (R187). -/
def execMhur (r1 r2 : Reg) (s : State) : Result :=
  evenPair r1 (.next (productInto 2 r1 (productUnsigned (s.reg (r1 + 1)) (s.reg r2)) s))

/-- MHU (R188). -/
def execMhu (r1 x2 : Reg) (a2 : Half) (s : State) : Result :=
  evenPair r1 (attempt (s.operandHalf a2 x2) fun b =>
    .next (productInto 4 r1 (productUnsigned (s.reg (r1 + 1)) b) s))

/-- The divide fault: operands unchanged, and the interrupt when FDE is set (R191; D19, log 19). -/
def divideFault (len : Half) (s : State) : Result :=
  if s.fde then raise .fixedPointDivideFault len s else .next (s.advance len)

/-- The remainder replaces R1 and the quotient R1 + 1; the Condition Code is unchanged (R189). -/
def quotientInto (len : Half) (r1 : Reg) (quotient remainder : Half) (s : State) : State :=
  ((s.setReg r1 remainder).setReg (r1 + 1) quotient).advance len

/-- `divide(n, d)` of R191: the quotient is rounded toward zero and the remainder has the sign of the dividend.
A quotient of magnitude above 32768 faults. At magnitude 32768 the source does not settle whether the divide
faults, nor what a quotient of +32768 leaves: the divide is refused, as the rule says (D19); on a platform of the other
policy it goes on with both free (log 18). -/
def divide (len : Half) (r1 : Reg) (n d : Int) (s : State) : Result :=
  if d = 0 then divideFault len s
  else
    let q := n.tdiv d
    let r := BitVec.ofInt 16 (n.tmod d)
    if 32768 < q.natAbs then divideFault len s
    else if q.natAbs = 32768 then
      if s.platform.undefined = .refused then .refused .divideQuotientBoundary
      else if s.freeBit 0 then divideFault len (s.drawn 2)
      else
        let quotient := if q < 0 then BitVec.ofInt 16 q else Config.freeHalf (s.draws + 1)
        .next (quotientInto len r1 quotient r (s.drawn 2))
    else .next (quotientInto len r1 (BitVec.ofInt 16 q) r s)

/-- DHR (R189). -/
def execDhr (r1 r2 : Reg) (s : State) : Result :=
  evenPair r1 (divide 2 r1 (s.pair r1).toInt (s.reg r2).toInt s)

/-- DH (R190). -/
def execDh (r1 x2 : Reg) (a2 : Half) (s : State) : Result :=
  evenPair r1 (attempt (s.operandHalf a2 x2) fun b => divide 4 r1 (s.pair r1).toInt b.toInt s)

end Sys2Proof.Machine
end

