-- ==== Sys2Proof/Machine/Branch.lean ====
section
/-! DEFINITION. Branch instructions (44_branch.md). No branch changes the Condition Code. -/

namespace Sys2Proof.Machine

/-- `(M1 AND CC) != 0` (R278). -/
def State.maskHit (s : State) (m1 : BitVec 4) : Bool := (m1 &&& s.cc) != 0

/-- Branches to `t` when `taken`, else to the next instruction (R283). -/
def branch (taken : Bool) (t len : Half) (s : State) : Result :=
  .next (if taken then s.setLoc t else s.advance len)

/-- The target of a short backward branch (R283, 30_encoding.md R110). -/
def State.shortBackward (s : State) (n : BitVec 4) : Half := s.loc - 2 * literal n

/-- The target of a short forward branch. -/
def State.shortForward (s : State) (n : BitVec 4) : Half := s.loc + 2 * literal n

/-- BTBS (R270). -/
def execBtbs (m1 n : BitVec 4) (s : State) : Result := branch (s.maskHit m1) (s.shortBackward n) 2 s

/-- BTFS (R271). -/
def execBtfs (m1 n : BitVec 4) (s : State) : Result := branch (s.maskHit m1) (s.shortForward n) 2 s

/-- BTCR (R272). -/
def execBtcr (m1 : BitVec 4) (r2 : Reg) (s : State) : Result := branch (s.maskHit m1) (s.reg r2) 2 s

/-- BTC (R273). -/
def execBtc (m1 : BitVec 4) (x2 : Reg) (a2 : Half) (s : State) : Result :=
  branch (s.maskHit m1) (s.sum a2 x2) 4 s

/-- BFBS (R274). -/
def execBfbs (m1 n : BitVec 4) (s : State) : Result := branch (!s.maskHit m1) (s.shortBackward n) 2 s

/-- BFFS (R275). -/
def execBffs (m1 n : BitVec 4) (s : State) : Result := branch (!s.maskHit m1) (s.shortForward n) 2 s

/-- BFCR (R276). -/
def execBfcr (m1 : BitVec 4) (r2 : Reg) (s : State) : Result := branch (!s.maskHit m1) (s.reg r2) 2 s

/-- BFC (R277). -/
def execBfc (m1 : BitVec 4) (x2 : Reg) (a2 : Half) (s : State) : Result :=
  branch (!s.maskHit m1) (s.sum a2 x2) 4 s

/-- `greater(a, b)` of R285: the unsigned comparison (D18, log 24). DESIGN CHOICE, unsafe. -/
def greater (a b : Half) : Bool := decide (b.toNat < a.toNat)

/-- The index after its increment: R1 plus R1 + 1 (R279). -/
def State.nextIndex (s : State) (r1 : Reg) : Half := s.reg r1 + s.reg (r1 + 1)

/-- BXH: the target is formed before the index changes, and the index is written in both cases (R279). -/
def execBxh (r1 x2 : Reg) (a2 : Half) (s : State) : Result :=
  atMost 13 r1 (branch (greater (s.nextIndex r1) (s.reg (r1 + 2))) (s.sum a2 x2) 4
    (s.setReg r1 (s.nextIndex r1)))

/-- BXLE (R280). -/
def execBxle (r1 x2 : Reg) (a2 : Half) (s : State) : Result :=
  atMost 13 r1 (branch (!greater (s.nextIndex r1) (s.reg (r1 + 2))) (s.sum a2 x2) 4
    (s.setReg r1 (s.nextIndex r1)))

/-- BALR: the target is read before the link is written (R281). -/
def execBalr (r1 r2 : Reg) (s : State) : Result :=
  .next ((s.setReg r1 (s.loc + 2)).setLoc (s.reg r2))

/-- BAL (R282). -/
def execBal (r1 x2 : Reg) (a2 : Half) (s : State) : Result :=
  .next ((s.setReg r1 (s.loc + 4)).setLoc (s.sum a2 x2))

end Sys2Proof.Machine
end

