-- ==== Sys2Proof/Machine/Central.lean ====
section
/-! DEFINITION. Shared operations of the annex machine, the Central Computer (49_annex_central_computer.md): sign and
magnitude words, its memory, sequencing, addressing and the illegal instruction operation. It shares nothing with the
HMP-1116 (R450; log 41). -/

namespace Sys2Proof.Machine

/-! Words -/

/-- `sgn(w)`: true for negative (R451). -/
def sgn (w : CWord) : Bool := w.msb

/-- `mag(w)`: bits 1 to 17 (R451). -/
def mag (w : CWord) : Nat := (w.extractLsb' 0 17).toNat

/-- `val(w)` (R451). -/
def centralValue (w : CWord) : Int := if sgn w then -(mag w : Int) else mag w

/-- The word of a sign and a magnitude below 2^17. -/
def signMag (sign : Bool) (m : Nat) : CWord := BitVec.ofBool sign ++ BitVec.ofNat 17 m

/-- The 34-bit magnitude of a double-length word, high-order half first (R451). -/
def doubleMag (high low : CWord) : Nat := mag high * 2 ^ 17 + mag low

/-! State -/

/-- The state with the annex machine replaced. -/
def State.setCentral (s : State) (c : Central) : State := { s with central := c }

/-- The word at an address of 18 bits (R452(m)): 2^18 words, a size that is not in the source; DESIGN CHOICE, log 45. -/
def Central.word (c : Central) (a : CWord) : CWord := readStore 0 c.mem a.toNat

/-- The annex machine with one word of memory written. -/
def Central.putWord (c : Central) (a v : CWord) : Central := { c with mem := writeStore 0 c.mem a.toNat v }

/-- "Takes the next instruction in sequence" (R455). -/
def Central.sequence (c : Central) : Central := { c with pc := c.pc + 1 }

/-- "One instruction is skipped" (R455). -/
def Central.skip (c : Central) : Central := { c with pc := c.pc + 2 }

/-- Control goes to an address (R455). -/
def Central.transfer (c : Central) (a : CWord) : Central := { c with pc := a }

/-- Indicator F(k + 1). -/
def Central.indicator (c : Central) (k : Fin 10) : Bool := c.indicators[k.val]

/-- The annex machine with something sent out. -/
def Central.act (c : Central) (a : CentralAction) : Central := { c with actions := c.actions ++ [a] }

/-- Completes an instruction: the annex machine as given, then the next instruction in sequence. -/
def centralNext (s : State) (c : Central) : Result := .next (s.setCentral c.sequence)

/-- Completes a skip instruction. -/
def centralSkipIf (s : State) (skips : Bool) : Result :=
  .next (s.setCentral (if skips then s.central.skip else s.central.sequence))

/-! Addressing -/

/-- "The location specified by Y and R": the rule that forms it is not in the source, so each use is a fresh free
address (R454; log 43). -/
def withLocation (r : BitVec 4) (y : BitVec 9) (s : State) (k : CWord → State → Result) : Result :=
  k (Config.centralLocation s.draws r y) (s.drawn 1)

/-- The content of the location specified by Y and R. -/
def withWord (r : BitVec 4) (y : BitVec 9) (s : State) (k : CWord → State → Result) : Result :=
  withLocation r y s fun a t => k (t.central.word a) t

/-- A conditional transfer to the location specified by Y and R. -/
def centralTransfer (taken : Bool) (r : BitVec 4) (y : BitVec 9) (s : State) : Result :=
  if taken then withLocation r y s fun a t => .next (t.setCentral (t.central.transfer a))
  else centralNext s s.central

/-- The illegal instruction operation: the indicator is set; with the restart pushbutton enabled the program counter
(its own or its successor's address: free, log 52) goes to T and the program restarts at location zero; otherwise a
no-op (R524). -/
def centralIllegal (s : State) : Result :=
  let c := { s.central with illegalIndicator := true }
  if c.restartEnabled then
    let t := if s.freeBit 0 then c.pc else c.pc + 1
    .next ((s.drawn 1).setCentral { c with tRegister := t, pc := 0 })
  else centralNext s c

end Sys2Proof.Machine
end

