-- ==== Sys2Proof/Machine/CentralArithmetic.lean ====
section
/-! DEFINITION. Central Computer: arithmetic, word transmission and logical operations
(49_annex_central_computer.md R469 to R478, R483 to R486). -/

namespace Sys2Proof.Machine

/-! Arithmetic -/

/-- The end of ADD and SUB with exact result `v`: a zero keeps the old sign; on overflow the indicator is turned on
and the accumulator is free, as the annex does not state it (R469; log 46). -/
def centralSum (v : Int) (s : State) : Result :=
  let c := s.central
  if v.natAbs < 2 ^ 17 then
    centralNext s { c with acc := signMag (if v = 0 then sgn c.acc else decide (v < 0)) v.natAbs }
  else centralNext (s.drawn 1) { c with acc := Config.centralWord s.draws, overflow := true }

/-- ADD (R469). -/
def execAdd (r : BitVec 4) (y : BitVec 9) (s : State) : Result :=
  withWord r y s fun m t => centralSum (centralValue t.central.acc + centralValue m) t

/-- SUB (R470). -/
def execSub (r : BitVec 4) (y : BitVec 9) (s : State) : Result :=
  withWord r y s fun m t => centralSum (centralValue t.central.acc - centralValue m) t

/-- MLY: the 34-bit product, its sign in both words (R471). -/
def execMly (r : BitVec 4) (y : BitVec 9) (s : State) : Result :=
  withWord r y s fun m t =>
    let c := t.central
    let p := mag c.acc * mag m
    let sign := sgn c.acc ^^ sgn m
    centralNext t { c with acc := signMag sign (p / 2 ^ 17), q := signMag sign (p % 2 ^ 17) }

/-- DIV: divide check when the divisor is not greater in magnitude than the accumulator (R472). -/
def execDiv (r : BitVec 4) (y : BitVec 9) (s : State) : Result :=
  withWord r y s fun m t =>
    let c := t.central
    if mag m ≤ mag c.acc then centralNext t { c with divideCheck := true }
    else
      let d := doubleMag c.acc c.q
      centralNext t { c with acc := signMag (sgn c.acc ^^ sgn m) (d / mag m), q := signMag (sgn c.acc) (d % mag m) }

/-- A signed double-length value. -/
def doubleValue (high low : CWord) : Int :=
  if sgn high then -(doubleMag high low : Int) else doubleMag high low

/-- DPA: the high-order word of the operand is at the location after the low-order one. On overflow, and where the
signs of the two words or of the accumulator and Q register differ, the sum is free; in the second case so is whether
the indicator is turned on (R473; log 46). -/
def execDpa (r : BitVec 4) (y : BitVec 9) (s : State) : Result :=
  withLocation r y s fun a t =>
    let c := t.central
    let high := c.word (a + 1)
    let low := c.word a
    let free := { c with acc := Config.centralWord t.draws, q := Config.centralWord (t.draws + 1) }
    if sgn high != sgn low || sgn c.acc != sgn c.q then
      centralNext (t.drawn 3) { free with overflow := c.overflow || t.freeBit 2 }
    else
      let v := doubleValue c.acc c.q + doubleValue high low
      if v.natAbs < 2 ^ 34 then
        let sign := if v = 0 then sgn c.acc else decide (v < 0)
        centralNext t { c with acc := signMag sign (v.natAbs / 2 ^ 17), q := signMag sign (v.natAbs % 2 ^ 17) }
      else centralNext (t.drawn 2) { free with overflow := true }

/-- The integer square root of `d`, found one bit at a time from bit `k - 1` down. -/
def squareRoot (d : Nat) : Nat → Nat → Nat
  | 0, root => root
  | k + 1, root => squareRoot d k (if (root + 2 ^ k) * (root + 2 ^ k) ≤ d then root + 2 ^ k else root)

/-- The root SQR leaves as a 17-bit magnitude. Whether it is truncated or rounded is not stated: `rounds` is a free
choice, and a root that rounds out of the word is the free `other` (R474; log 46). -/
def centralRoot (d : Nat) (rounds : Bool) (other : Nat) : Nat :=
  let root := squareRoot d 17 0
  if rounds && decide (root * root + root < d) then
    if root + 1 < 2 ^ 17 then root + 1 else other
  else root

/-- SQR: a negative argument turns the divide check on. The Q register is destroyed (free). An argument of sign 1 and
magnitude 0 is not described: whether it is checked, and the sign of its root, are free (R474; log 46). -/
def execSqr (s : State) : Result :=
  let c := s.central
  let d := doubleMag c.acc c.q
  if sgn c.acc && (d != 0 || s.freeBit 0) then centralNext (s.drawn 1) { c with divideCheck := true }
  else
    let root := centralRoot d (s.freeBit 1) (mag (Config.centralWord (s.draws + 2)))
    centralNext (s.drawn 5)
      { c with acc := signMag (sgn c.acc && s.freeBit 4) root, q := Config.centralWord (s.draws + 3) }

/-! Word transmission -/

/-- CLA (R475). -/
def execCla (r : BitVec 4) (y : BitVec 9) (s : State) : Result :=
  withWord r y s fun m t => centralNext t { t.central with acc := m }

/-- STR (R476). -/
def execStr (r : BitVec 4) (y : BitVec 9) (s : State) : Result :=
  withLocation r y s fun a t => centralNext t (t.central.putWord a t.central.acc)

/-- LDQ (R477). -/
def execLdq (r : BitVec 4) (y : BitVec 9) (s : State) : Result :=
  withWord r y s fun m t => centralNext t { t.central with q := m }

/-- STQ (R478). -/
def execStq (r : BitVec 4) (y : BitVec 9) (s : State) : Result :=
  withLocation r y s fun a t => centralNext t (t.central.putWord a t.central.q)

/-! Logical -/

/-- LGA (R483). -/
def execLga (r : BitVec 4) (y : BitVec 9) (s : State) : Result :=
  withWord r y s fun m t => centralNext t { t.central with acc := t.central.acc ||| m }

/-- LGM (R484). -/
def execLgm (r : BitVec 4) (y : BitVec 9) (s : State) : Result :=
  withWord r y s fun m t => centralNext t { t.central with acc := t.central.acc &&& m }

/-- LGC (R485). -/
def execLgc (r : BitVec 4) (y : BitVec 9) (s : State) : Result :=
  withWord r y s fun m t => centralNext t { t.central with acc := t.central.acc ^^^ m }

/-- CGC: the conversion is not described, so it is a free function of the word (R486; log 46). -/
def execCgc (r : BitVec 4) (y : BitVec 9) (s : State) : Result :=
  withWord r y s fun m t => centralNext t { t.central with acc := Config.centralGray m }

end Sys2Proof.Machine
end

