-- ==== Sys2Proof/Machine/CentralControl.lean ====
section
/-! DEFINITION. Central Computer: control operations (49_annex_central_computer.md R457 to R468). -/

namespace Sys2Proof.Machine

/-- TRU (R457). -/
def execTru (r : BitVec 4) (y : BitVec 9) (s : State) : Result := centralTransfer true r y s

/-- TRN: on the sign bit alone (R458). -/
def execTrn (r : BitVec 4) (y : BitVec 9) (s : State) : Result := centralTransfer (sgn s.central.acc) r y s

/-- TRZ: on the magnitude alone (R459). -/
def execTrz (r : BitVec 4) (y : BitVec 9) (s : State) : Result := centralTransfer (mag s.central.acc == 0) r y s

/-- TOF: the Overflow Indicator is off afterwards in both cases (R460). -/
def execTof (r : BitVec 4) (y : BitVec 9) (s : State) : Result :=
  centralTransfer s.central.overflow r y (s.setCentral { s.central with overflow := false })

/-- TSX: the return address goes to index register 12 (R461). -/
def execTsx (r : BitVec 4) (y : BitVec 9) (s : State) : Result :=
  withLocation r y s fun a t =>
    .next (t.setCentral { t.central with index := t.central.index.set 11 (t.central.pc + 1), pc := a })

/-- `a` is above `b` in the order of CMA: by value, +0 above -0 (R462). -/
def algebraicAbove (a b : CWord) : Bool :=
  decide (centralValue b < centralValue a) ||
    (centralValue a == centralValue b && !sgn a && sgn b)

/-- The compare indicators: high or low alone, both when equal (R462). -/
def Central.compared (c : Central) (above below : Bool) : Central :=
  { c with compareHigh := !below, compareLow := !above }

/-- CMA (R462). -/
def execCma (r : BitVec 4) (y : BitVec 9) (s : State) : Result :=
  withWord r y s fun m t =>
    centralNext t (t.central.compared (algebraicAbove t.central.acc m) (algebraicAbove m t.central.acc))

/-- CML: unsigned, all 18 bits (R463). -/
def execCml (r : BitVec 4) (y : BitVec 9) (s : State) : Result :=
  withWord r y s fun m t =>
    centralNext t (t.central.compared (decide (m.toNat < t.central.acc.toNat)) (decide (t.central.acc.toNat < m.toNat)))

/-- TRE (R464). -/
def execTre (r : BitVec 4) (y : BitVec 9) (s : State) : Result :=
  centralTransfer (s.central.compareHigh && s.central.compareLow) r y s

/-- TRH (R465). -/
def execTrh (r : BitVec 4) (y : BitVec 9) (s : State) : Result :=
  centralTransfer (s.central.compareHigh && !s.central.compareLow) r y s

/-- TRL (R466). -/
def execTrl (r : BitVec 4) (y : BitVec 9) (s : State) : Result :=
  centralTransfer (s.central.compareLow && !s.central.compareHigh) r y s

/-- LCK: the skip is the success path. That F7 decides between two processors that lock at the same moment is left out,
as the model runs one of them (log 48). A single processor with the ignore lock switch off is not described (R467;
log 48). -/
def execLck (n : BitVec 10) (s : State) : Result :=
  let c := s.central
  if c.dual then
    if n = c.otherLock then centralNext s { c with lock := Config.centralLockReset }
    else .next (s.setCentral { c with lock := n }.skip)
  else if c.ignoreLockSwitch then centralNext s c
  else .refused .centralLockNotSpecified

/-- ULK: a no-operation in a single processor system (R468). -/
def execUlk (s : State) : Result :=
  if s.central.dual then centralNext s { s.central with lock := Config.centralLockReset }
  else centralNext s s.central

end Sys2Proof.Machine
end

