-- ==== Sys2Proof/Machine/CentralIndex.lean ====
section
/-! DEFINITION. Central Computer: index register, shift and register operations (49_annex_central_computer.md R479 to
R482, R487 to R499). -/

namespace Sys2Proof.Machine

/-- The content of index register 1 to 12; 0 for a number that names none (R452(d)). -/
def Central.indexValue (c : Central) (r : BitVec 4) : CWord :=
  if h : 1 ≤ r.toNat ∧ r.toNat ≤ 12 then c.index[r.toNat - 1]'(by omega) else 0

/-- Index register 1 to 12 written. -/
def Central.setIndex (c : Central) (r : BitVec 4) (v : CWord) : Central :=
  if h : 1 ≤ r.toNat ∧ r.toNat ≤ 12 then { c with index := c.index.set (r.toNat - 1) v (by omega) } else c

/-! Index operations -/

/-- How the R field of an index operation is read: 0 and 13 name nothing, 14 and 15 ask for the indirect word. -/
inductive IndexForm where
  /-- R = 0 or 13. -/
  | none
  /-- R = 1 to 12. -/
  | register
  /-- R = 14 or 15. -/
  | indirect
  deriving DecidableEq, Repr

/-- The form of an R field (R479). -/
def indexForm (r : BitVec 4) : IndexForm :=
  if r = 0 ∨ r = 13 then .none else if r.toNat ≤ 12 then .register else .indirect

/-- An index register plus `n`. How it goes past 17 bits is not stated: free (log 53). -/
def indexPlus (v : CWord) (n : Nat) (free : CWord) : CWord :=
  if v.toNat + n < 2 ^ 17 then BitVec.ofNat 18 (v.toNat + n) else free

/-- An index register minus `n`. A borrow, and a register of more than 17 bits, are not stated: free (log 53). -/
def indexMinus (v : CWord) (n : Nat) (free : CWord) : CWord :=
  if v.toNat < 2 ^ 17 ∧ n ≤ v.toNat then BitVec.ofNat 18 (v.toNat - n) else free

/-- Bits 01 to 17 of index register 1 replaced. -/
def Central.setIndexOne (c : Central) (v : CWord) : Central :=
  c.setIndex 1 (BitVec.ofBool (sgn (c.indexValue 1)) ++ v.extractLsb' 0 17)

/-- The 17-bit Y^1 field of an indirect word as a word (R454). Where R^1 and Y^1 lie in the word is not in the source:
R^1 is taken as bit 0, read by `sgn`, and Y^1 as bits 1 to 17. PRESUMED, log 58; unsafe. -/
def indirectY (w : CWord) : CWord := BitVec.ofNat 18 (mag w)

/-- INX and DCX: `f` is the index arithmetic. With R = 14 or 15 the indirect word gives the amount, and acts only when
its R^1 bit is a one (R479, R480; log 53). -/
def indexStep (f : CWord → Nat → CWord → CWord) (r : BitVec 4) (y : BitVec 8) (s : State) : Result :=
  let free := Config.centralWord s.draws
  match indexForm r with
  | .none => centralNext s s.central
  | .register =>
    centralNext (s.drawn 1) (s.central.setIndex r (f (s.central.indexValue r) y.toNat free))
  | .indirect =>
    withWord r (y.setWidth 9) (s.drawn 1) fun w t =>
      if sgn w then
        centralNext t (t.central.setIndexOne (f (indirectY (t.central.indexValue 1)) (mag w) free))
      else centralNext t t.central

/-- INX (R479). -/
def execInx (r : BitVec 4) (y : BitVec 8) (s : State) : Result := indexStep indexPlus r y s

/-- DCX (R480). -/
def execDcx (r : BitVec 4) (y : BitVec 8) (s : State) : Result := indexStep indexMinus r y s

/-- TRX on index register `k`: a zero goes on in sequence; otherwise it is decremented and control goes to `a`. Whether
bit 0 of an index register is a sign is not in the source (R452(d)): all 18 bits are tested and counted as one unsigned
number. DESIGN CHOICE, log 53; unsafe for a register with bit 0 set. -/
def indexTransfer (k : BitVec 4) (a : CWord) (s : State) : Result :=
  let c := s.central
  if c.indexValue k = 0 then centralNext s c
  else .next (s.setCentral ((c.setIndex k (c.indexValue k - 1)).transfer a))

/-- TRX: the X bit, whose part is not in the source, is the leading bit of a 9-bit Y (DESIGN CHOICE, log 59). With
R = 14 or 15 and R^1 a one, index register 1 and the indirect address; with R^1 a zero the text says
nothing, and the program counter is free (R481; log 53). -/
def execTrx (r : BitVec 4) (x : Bool) (y : BitVec 8) (s : State) : Result :=
  let y := BitVec.ofBool x ++ y
  match indexForm r with
  | .none => centralNext s s.central
  | .register => withLocation r y s fun a t => indexTransfer r a t
  | .indirect =>
    withWord r y s fun w t =>
      if sgn w then indexTransfer 1 (indirectY w) t
      else .next ((t.drawn 1).setCentral (t.central.transfer (Config.centralWord t.draws)))

/-- SXH: the index register is compared as an unsigned number of 18 bits (log 53), and the X bit, whose part is not in
the source, is no part of the number (DESIGN CHOICE, log 59). With R = 14 or 15 and R^1 a one, index register 1 against
the indirect address; with R^1 a zero the skip is free (R482; log 53). -/
def execSxh (r : BitVec 4) (x : Bool) (y : BitVec 8) (s : State) : Result :=
  match indexForm r with
  | .none => centralNext s s.central
  | .register => centralSkipIf s (decide (y.toNat < (s.central.indexValue r).toNat))
  | .indirect =>
    withWord r (BitVec.ofBool x ++ y) s fun w t =>
      if sgn w then centralSkipIf t (decide (mag w < (t.central.indexValue 1).toNat))
      else centralSkipIf (t.drawn 1) (t.freeBit 0)

/-! Shifts -/

/-- A shift: R = 13, 14 or 15 is an illegal R field; otherwise the count is K plus the index register, modulo 2^6
(R487). The register is read as an unsigned number of 18 bits; whether its bit 0 is a sign is not stated (R452(d)).
DESIGN CHOICE, log 53; unsafe for a register with bit 0 set. -/
def centralShift (r : BitVec 4) (k : BitVec 6) (s : State) (f : Nat → Central → Central) : Result :=
  if 13 ≤ r.toNat then centralIllegal s
  else centralNext s (f ((k.toNat + (s.central.indexValue r).toNat) % 64) s.central)

/-- LSA (R488). -/
def execLsa (r : BitVec 4) (k : BitVec 6) (s : State) : Result :=
  centralShift r k s fun n c =>
    let v := mag c.acc * 2 ^ n
    { c with acc := signMag (sgn c.acc) (v % 2 ^ 17), overflow := c.overflow || decide (2 ^ 17 ≤ v) }

/-- LSB: the sign of Q is copied into the accumulator (R489). -/
def execLsb (r : BitVec 4) (k : BitVec 6) (s : State) : Result :=
  centralShift r k s fun n c =>
    let v := doubleMag c.acc c.q * 2 ^ n
    { c with
      acc := signMag (sgn c.q) (v % 2 ^ 34 / 2 ^ 17)
      q := signMag (sgn c.q) (v % 2 ^ 17)
      overflow := c.overflow || decide (2 ^ 34 ≤ v) }

/-- RSA (R490). -/
def execRsa (r : BitVec 4) (k : BitVec 6) (s : State) : Result :=
  centralShift r k s fun n c => { c with acc := signMag (sgn c.acc) (mag c.acc / 2 ^ n) }

/-- RSB: the sign of the accumulator is copied into Q (R491). -/
def execRsb (r : BitVec 4) (k : BitVec 6) (s : State) : Result :=
  centralShift r k s fun n c =>
    let v := doubleMag c.acc c.q / 2 ^ n
    { c with acc := signMag (sgn c.acc) (v / 2 ^ 17), q := signMag (sgn c.acc) (v % 2 ^ 17) }

/-- RRA (R492). -/
def execRra (r : BitVec 4) (k : BitVec 6) (s : State) : Result :=
  centralShift r k s fun n c => { c with acc := c.acc.rotateRight n }

/-- RRQ (R493). -/
def execRrq (r : BitVec 4) (k : BitVec 6) (s : State) : Result :=
  centralShift r k s fun n c => { c with q := c.q.rotateRight n }

/-- The accumulator and the Q register replaced by the halves of a 36-bit word. -/
def Central.setBoth (c : Central) (v : BitVec 36) : Central :=
  { c with acc := v.extractLsb' 18 18, q := v.extractLsb' 0 18 }

/-- LRB (R494). -/
def execLrb (r : BitVec 4) (k : BitVec 6) (s : State) : Result :=
  centralShift r k s fun n c => c.setBoth ((c.acc ++ c.q).rotateLeft n)

/-- The ring sum of the first `n` bits that a right rotation passes from Q17 to A0 (R495). -/
def ringSum (v : BitVec 36) : Nat → Bool
  | 0 => false
  | n + 1 => ringSum v n ^^ v.getLsbD (n % 36)

/-- RRB: the ring sum inverts sense indicator 2, taken as F2 when odd (R495; log 47). -/
def execRrb (r : BitVec 4) (k : BitVec 6) (s : State) : Result :=
  centralShift r k s fun n c =>
    let v := c.acc ++ c.q
    { c.setBoth (v.rotateRight n) with
      indicators := c.indicators.set 1 (c.indicators[1] ^^ ringSum v n) }

/-! Accumulator and Q register -/

/-- SAP (R496). -/
def execSap (s : State) : Result :=
  centralNext s { s.central with acc := signMag false (mag s.central.acc) }

/-- CSA (R497). -/
def execCsa (s : State) : Result :=
  centralNext s { s.central with acc := signMag (!sgn s.central.acc) (mag s.central.acc) }

/-- XCA (R498). -/
def execXca (s : State) : Result := centralNext s { s.central with acc := s.central.q, q := s.central.acc }

/-- CPA: the magnitude of a negative accumulator is complemented, -0 staying (R499). -/
def execCpa (s : State) : Result :=
  let c := s.central
  centralNext s
    { c with acc := if sgn c.acc then signMag true ((2 ^ 17 - mag c.acc) % 2 ^ 17) else c.acc }

end Sys2Proof.Machine
end

