-- ==== Sys2Proof/Machine/CentralSystem.lean ====
section
/-! DEFINITION. Central Computer: page registers, block indicators, indicators and switches, external function and
serial input and output (49_annex_central_computer.md R500 to R523). -/

namespace Sys2Proof.Machine

/-! Page registers and block indicators -/

/-- A register incremented by 1; negative words and the largest magnitude are free (R500; log 49). -/
def centralPlusOne (w : CWord) : CWord :=
  if sgn w || mag w == 2 ^ 17 - 1 then Config.centralIncrement w else w + 1

/-- LPR: page register 0 is a NoOp; whether it still counts A and Q is free (R500; log 49). -/
def execLpr (s : State) : Result :=
  let c := s.central
  let p := Config.centralPage c.acc
  let counted := { c with acc := centralPlusOne c.acc, q := centralPlusOne c.q }
  if p = 0 then centralNext s (if Config.centralPageZeroCounts then counted else c)
  else centralNext s { counted with pages := writeStore 0 c.pages p.toNat c.q }

/-- RPR (R501). -/
def execRpr (s : State) : Result :=
  let c := s.central
  centralNext s
    { c with acc := centralPlusOne c.acc, q := readStore 0 c.pages (Config.centralPage c.acc).toNat }

/-- LBI: Q bits 14 to 17 (R502). -/
def execLbi (ch : BitVec 3) (s : State) : Result :=
  let c := s.central
  centralNext s { c with blockIndicators := c.blockIndicators.set ch.toNat (c.q.extractLsb' 0 4) ch.isLt }

/-- RBI: to Q bits 6 to 9; the other bits of Q are not stated and are free (R503; log 46). -/
def execRbi (ch : BitVec 3) (s : State) : Result :=
  let c := s.central
  let free := Config.centralWord s.draws
  centralNext (s.drawn 1)
    { c with q := (free.extractLsb' 12 6 ++ c.blockIndicators[ch.toNat]'ch.isLt) ++ free.extractLsb' 0 8 }

/-! Indicators and switches -/

/-- The N field names indicator F(j + 1); which bit names which is free, one to one (R504, R505; log 47). -/
def namesIndicator (n : BitVec 10) (j : Fin 10) : Bool := n.getMsbD (Config.centralIndicator.symm j).val

/-- Ten indicators from a function. -/
def indicatorVector (f : Fin 10 → Bool) : Vector Bool 10 :=
  #v[f 0, f 1, f 2, f 3, f 4, f 5, f 6, f 7, f 8, f 9]

/-- SEI and REI: the named indicators become `v`. F3 is not affected, and F7 is always set in the single processor
configuration (R505). -/
def Central.setIndicators (c : Central) (n : BitVec 10) (v : Bool) : Central :=
  { c with indicators := indicatorVector fun j =>
      if j = 6 ∧ !c.dual then true
      else if j ≠ 2 ∧ namesIndicator n j then v
      else c.indicator j }

/-- SEI (R505). -/
def execSei (n : BitVec 10) (s : State) : Result := centralNext s (s.central.setIndicators n true)

/-- REI (R506). -/
def execRei (n : BitVec 10) (s : State) : Result := centralNext s (s.central.setIndicators n false)

/-- SKI (R507). -/
def execSki (n : BitVec 10) (s : State) : Result :=
  centralSkipIf s ((List.finRange 10).all fun j => !namesIndicator n j || s.central.indicator j)

/-- The thirteen sense indicators: F1 to F10, compare high, compare low, overflow (R509). -/
def Central.sense (c : Central) : List Bool := c.indicators.toList ++ [c.compareHigh, c.compareLow, c.overflow]

/-- The accumulator PIA leaves: each sense indicator at its free place among the low 13 bits, the rest clear (R508;
log 47). -/
def Central.senseWord (c : Central) : CWord :=
  (List.finRange 13).foldl
    (fun w k => if c.sense.getD k.val false then w ||| (1#18 <<< (Config.centralSenseBit k).val) else w) 0

/-- PIA (R508). -/
def execPia (s : State) : Result := centralNext s { s.central with acc := s.central.senseWord }

/-- PAI: every sense indicator but F1, F3 and F7 (R509). -/
def execPai (s : State) : Result :=
  let c := s.central
  let bit := fun k : Fin 13 => c.acc.getLsbD (Config.centralSenseBit k).val
  centralNext s
    { c with
      indicators := indicatorVector fun j =>
        if j = 0 ∨ j = 2 ∨ j = 6 then c.indicator j else bit (j.castLE (by decide))
      compareHigh := bit 10
      compareLow := bit 11
      overflow := bit 12 }

/-- SKW (R510). -/
def execSkw (n : BitVec 10) (s : State) : Result := centralSkipIf s (n &&& ~~~s.central.switches == 0)

/-! Buffered input and output -/

/-- The four-channel group of a channel exists (R511). Which channels form a group is not stated: 0 to 3 and 4 to 7;
DESIGN CHOICE, log 51, unsafe. -/
def Central.channelExists (c : Central) (ch : BitVec 3) : Bool := if ch.toNat < 4 then c.lowChannels else c.highChannels

/-- Where the command word of EXF is: Y itself, or the program counter plus Y. How a Y whose leading bit is one is
read is not in the source: a free address (R511; log 51). The page registers take no part (log 49). The rule asks that
command words be in the first block (address 0 to 131,071) and does not say what happens otherwise: the word at the full
18-bit address is sent. DESIGN CHOICE, log 51; unsafe for such a word. -/
def exfAddress (y1 : Bool) (y : BitVec 9) (s : State) : CWord :=
  if y.msb then Config.centralLocation s.draws 0 y
  else if y1 then s.central.pc + y.setWidth 18
  else y.setWidth 18

/-- EXF: a no-op for a channel whose group does not exist (R511). -/
def execExf (ch : BitVec 3) (y1 : Bool) (y : BitVec 9) (s : State) : Result :=
  let c := s.central
  if c.channelExists ch then
    centralNext (s.drawn 1) (c.act (.external ch (c.word (exfAddress y1 y s))))
  else centralNext s c

/-! Serial input and output -/

/-- An operation that does nothing when the Console Not Busy Indicator is off (R512). -/
def whenNotBusy (s : State) (k : Result) : Result := if s.central.consoleNotBusy then k else centralNext s s.central

/-- TWA (R513). -/
def execTwa (s : State) : Result :=
  whenNotBusy s
    (centralNext s ({ s.central with keyboardLight := true, consoleNotBusy := false }.act .keyboardOn))

/-- TWF: not conditional (R514). -/
def execTwf (s : State) : Result :=
  centralNext s ({ s.central with keyboardLight := false, consoleNotBusy := true }.act .keyboardOff)

/-- Six bits through the Console Buffer Register; its seventh bit is free (R515; log 50). -/
def sixBits (s : State) : BitVec 7 := BitVec.ofBool (s.freeBit 0) ++ s.central.q.extractLsb' 0 6

/-- OTW (R515). -/
def execOtw (s : State) : Result :=
  whenNotBusy s
    (centralNext (s.drawn 1)
      ({ s.central with consoleBuffer := sixBits s, consoleNotBusy := false }.act
        (.printed (s.central.q.extractLsb' 0 6))))

/-- IPC: six bits, or seven with the 7 Level pushbutton; the other bits of Q are not altered (R516). -/
def execIpc (s : State) : Result :=
  let c := s.central
  centralNext s
    { c with q :=
        if c.level7 then c.q.extractLsb' 7 11 ++ c.consoleBuffer
        else c.q.extractLsb' 6 12 ++ c.consoleBuffer.extractLsb' 0 6 }

/-- CTA (R517). -/
def execCta (s : State) : Result :=
  whenNotBusy s (centralNext s ({ s.central with consoleNotBusy := false }.act .tapeAdvance))

/-- CTS (R518). -/
def execCts (s : State) : Result :=
  centralNext s ({ s.central with consoleNotBusy := true }.act .tapeStop)

/-- CTR: the Console Not Busy Indicator is tested, not written. The program interrupt upon completion of the rewind comes
from outside and its mechanism is not in the source: left out (R519; log 60). -/
def execCtr (s : State) : Result := whenNotBusy s (centralNext s (s.central.act .tapeRewind))

/-- PMO (R520). -/
def execPmo (s : State) : Result := centralNext s (s.central.act .recordOn)

/-- PMF: 86 NULL characters (R521). -/
def execPmf (s : State) : Result := centralNext s (s.central.act (.recordOff 86))

/-- Whether a list of bits has an odd number of ones. -/
def oddOnes (bits : List Bool) : Bool := bits.foldl (· ^^ ·) false

/-- The odd parity bit over data bits and sense indicator F04 (R522). -/
def oddParity {n : Nat} (v : BitVec n) (f4 : Bool) : Bool :=
  !oddOnes (f4 :: (List.range n).map fun k => v.getLsbD k)

/-- OPA (R522). -/
def execOpa (s : State) : Result :=
  let c := s.central
  whenNotBusy s
    (centralNext (s.drawn 1)
      ({ c with consoleBuffer := sixBits s, consoleNotBusy := false }.act
        (.frame6 (c.q.extractLsb' 0 6) (oddParity (c.q.extractLsb' 0 6) (c.indicator 3)))))

/-- OPB (R523). -/
def execOpb (s : State) : Result :=
  let c := s.central
  whenNotBusy s
    (centralNext s
      ({ c with consoleBuffer := c.q.extractLsb' 0 7, consoleNotBusy := false }.act
        (.frame7 (c.q.extractLsb' 0 7) (oddParity (c.q.extractLsb' 0 7) (c.indicator 3)))))

end Sys2Proof.Machine
end

