-- ==== Sys2Proof/Machine/FloatingPoint.lean ====
section
/-! DEFINITION. Floating-point instructions (45_floating_point.md). The registers are fullwords of main memory
(10_state.md R34). -/

namespace Sys2Proof.Machine

/-! Words -/

/-- A floating-point word taken apart: sign bit 0, exponent bits 1:7, fraction bits 8:31 (R301; D21, log 15).
PRESUMED, unsafe. -/
structure FpFields where
  /-- The sign: true for negative. -/
  sign : Bool
  /-- The exponent in excess 64 notation. -/
  exponent : Nat
  /-- The fraction as a 24-bit magnitude. -/
  fraction : Nat
  deriving DecidableEq, Repr

/-- `fields(w)`. -/
def fpFields (w : Full) : FpFields :=
  { sign := w.msb, exponent := (w.extractLsb' 24 7).toNat, fraction := (w.extractLsb' 0 24).toNat }

/-- `s * 2^31 + e * 2^24 + f`. -/
def fpWord (sign : Bool) (exponent fraction : Nat) : Full :=
  BitVec.ofNat 32 (sign.toNat * 2 ^ 31 + exponent * 2 ^ 24 + fraction)

/-- `value(w)` of R301, scaled by `2^24 * 16^64` to an integer. -/
def fpValue (w : Full) : Int :=
  let x := fpFields w
  (if x.sign then -1 else 1) * ((x.fraction * 16 ^ x.exponent : Nat) : Int)

/-- Normalized or true zero: what the arithmetic and compare instructions ask of an operand (R302). -/
def fpAccepted (w : Full) : Bool := w == 0 || decide (2 ^ 20 ≤ (fpFields w).fraction)

/-- A result word with its V, G, L flags; V is set exactly on exponent overflow and underflow, which are the
faults of R306. -/
structure FpResult where
  /-- The word. -/
  word : Full
  /-- Exponent overflow or underflow. -/
  v : Bool
  /-- Greater than zero. -/
  g : Bool
  /-- Less than zero. -/
  l : Bool
  deriving DecidableEq, Repr

/-- True zero (R304). -/
def fpZero : FpResult := { word := 0, v := false, g := false, l := false }

/-- Exponent underflow: true zero with V (R304). -/
def fpUnderflow : FpResult := { word := 0, v := true, g := false, l := false }

/-- Exponent overflow: exponent and fraction all ones, the sign kept, with V (R304). -/
def fpOverflow (sign : Bool) : FpResult :=
  { word := fpWord sign 127 (2 ^ 24 - 1), v := true, g := !sign, l := sign }

/-- `deliver(s, e, f)` of R304, for a normalized fraction. -/
def fpDeliver (sign : Bool) (e : Int) (f : Nat) : FpResult :=
  if 127 < e then fpOverflow sign
  else if e < 0 then fpUnderflow
  else { word := fpWord sign e.toNat f, v := false, g := !sign, l := sign }

/-- `normalize` of R303: shifts the fraction left one hexadecimal digit and decrements the exponent until the
fraction reaches `limit`, at most as often as the first argument says. -/
def fpNormalize (limit : Nat) : Nat → Int → Nat → Int × Nat
  | 0, e, f => (e, f)
  | n + 1, e, f => if f < limit then fpNormalize limit n (e - 1) (f * 16) else (e, f)

/-- The result of LE and LER: the operand normalized, a zero fraction giving true zero (R308). -/
def fpLoadResult (w : Full) : FpResult :=
  let x := fpFields w
  if x.fraction = 0 then fpZero
  else
    let n := fpNormalize (2 ^ 20) 5 x.exponent x.fraction
    fpDeliver x.sign n.1 n.2

/-- The first part of `fp_add`: the aligned signed sum as sign, exponent and magnitude, with `guard` digits kept to
the right of the fraction (R321; `fp_add_guard`, log 16). -/
def fpAlignedSum (guard : Nat) (a b : FpFields) : Bool × Nat × Nat :=
  let e := max a.exponent b.exponent
  let ga := a.fraction * 16 ^ guard / 16 ^ (e - a.exponent)
  let gb := b.fraction * 16 ^ guard / 16 ^ (e - b.exponent)
  if a.sign = b.sign then (a.sign, e, ga + gb)
  else if gb ≤ ga then (a.sign, e, ga - gb)
  else (b.sign, e, gb - ga)

/-- `fp_add` of R321. The spec names the guard digits of a platform and not their use: they are kept through the
normalization, a difference in them alone is not zero, and what is left of them is truncated at the end, without a
rounding. DESIGN CHOICE, log 16; unsafe for a platform that keeps some. With none it is the rule's procedure. -/
def fpAdd (guard : Nat) (a b : FpFields) : FpResult :=
  let (sign, e, m) := fpAlignedSum guard a b
  if m = 0 then fpZero
  else if 2 ^ 24 * 16 ^ guard ≤ m then fpDeliver sign (e + 1) (m / 16 / 16 ^ guard)
  else
    let n := fpNormalize (2 ^ 20 * 16 ^ guard) (5 + guard) e m
    fpDeliver sign n.1 (n.2 / 16 ^ guard)

/-- The rounding of the truncated fraction `q` (R323): half up, or what the platform's function says, kept to a
normalized fraction. -/
def fpRounding (rule : Rounding) (step : RoundStep) (halfOrMore : Bool) (q : Nat) : Nat :=
  match rule, step with
  | .halfUp, _ => q + halfOrMore.toNat
  | .supplied, .up => q + 1
  | .supplied, .same => q
  | .supplied, .down => max (2 ^ 20) (q - 1)

/-- A carry out of a rounded fraction raises the exponent by one (R323). -/
def fpRounded (f : Nat) (e : Int) : Int × Nat := if f = 2 ^ 24 then (e + 1, 2 ^ 20) else (e, f)

/-- `fp_mul` of R317: the exponent test comes before the multiplication, and a true zero operand before both
(R322; D42, log 39). `own` is the rounding function of a platform that supplies one. -/
def fpMul (rule : Rounding) (own : Nat → RoundStep) (a b : FpFields) : FpResult :=
  if a.fraction = 0 ∨ b.fraction = 0 then fpZero
  else
    let sign := a.sign ^^ b.sign
    let e : Int := (a.exponent : Int) + b.exponent - 64
    if 127 < e then fpOverflow sign
    else if e < 0 then fpUnderflow
    else
      let p := a.fraction * b.fraction
      let (e, p) : Int × Nat := if p < 2 ^ 44 then (e - 1, p * 16) else (e, p)
      if e < 0 then fpUnderflow
      else
        let n := fpRounded (fpRounding rule (own p) (decide (2 ^ 23 ≤ p % 2 ^ 24)) (p / 2 ^ 24)) e
        fpDeliver sign n.1 n.2

/-- `fp_div` of R319, for a nonzero divisor. -/
def fpDiv (rule : Rounding) (own : Nat → Nat → Nat → RoundStep) (a b : FpFields) : FpResult :=
  if a.fraction = 0 then fpZero
  else
    let sign := a.sign ^^ b.sign
    let e : Int := (a.exponent : Int) - b.exponent + 64
    if 127 < e then fpOverflow sign
    else if e < 0 then fpUnderflow
    else
      let (e, k) : Int × Nat := if b.fraction ≤ a.fraction then (e + 1, 20) else (e, 24)
      let q := a.fraction * 2 ^ k / b.fraction
      let rem := a.fraction * 2 ^ k % b.fraction
      let n := fpRounded (fpRounding rule (own q rem b.fraction) (decide (b.fraction ≤ 2 * rem)) q) e
      fpDeliver sign n.1 n.2

/-! Registers and operands -/

/-- The address of a floating-point register, or the refusal of a number that names none (10_state.md R34). -/
def withFpr (s : State) (r : Reg) (k : BitVec 18 → Result) : Result :=
  match s.platform.fprAddress[r.val] with
  | some a => k a
  | none => .refused .fprInvalid

/-- `FPR[r]` at its address. -/
def State.readFpr (s : State) (a : BitVec 18) : Except Fault Full :=
  s.readFull (a.extractLsb' 16 2) (a.extractLsb' 0 16)

/-- `FPR[r] <- w` at its address. -/
def State.writeFpr (s : State) (a : BitVec 18) (w : Full) : Except Fault State :=
  s.writeFull (a.extractLsb' 16 2) (a.extractLsb' 0 16) w

/-- The operands of an RR form: the address and content of the first register and the content of the second
(R307). -/
def fpRegisters (r1 r2 : Reg) (s : State) (k : BitVec 18 → Full → Full → Result) : Result :=
  withFpr s r1 fun a1 => withFpr s r2 fun a2 =>
    attempt (s.readFpr a1) fun a => attempt (s.readFpr a2) fun b => k a1 a b

/-- The operands of an RX form: the address and content of the first register and the fullword second operand
(R307). -/
def fpStorage (r1 x2 : Reg) (m : Half) (s : State) (k : BitVec 18 → Full → Full → Result) : Result :=
  withFpr s r1 fun a1 =>
    attempt (s.readFpr a1) fun a => attempt (s.operandFull m x2) fun b => k a1 a b

/-! Completion -/

/-- The end of a floating-point instruction whose result and Condition Code are written: the Floating-Point Fault
when it is caused and FPE is set, else the next instruction (R306). -/
def fpEnd (len : Half) (fault : Bool) (s : State) : Result :=
  if fault && s.fpe then raise .floatingPointFault len s else .next (s.advance len)

/-- Writes the result register and the Condition Code, then ends the instruction. -/
def fpFinish (len : Half) (a1 : BitVec 18) (w : Full) (cc : BitVec 4) (fault : Bool) (s : State) : Result :=
  attempt (s.writeFpr a1 w) fun t => fpEnd len fault (t.setCC cc)

/-- Delivers a result with a given C flag. -/
def fpResultInto (len : Half) (a1 : BitVec 18) (c : Bool) (r : FpResult) (s : State) : Result :=
  fpFinish len a1 r.word (ccOf c r.v r.g r.l) r.v s

/-- Four free flags. -/
def State.freeCC (s : State) : BitVec 4 := ccOf (s.freeBit 0) (s.freeBit 1) (s.freeBit 2) (s.freeBit 3)

/-- An operand that is not normalized is refused, as the rule says (R302, D38); on a platform of the other policy the
machine goes on (log 17). -/
def unnormalized (s : State) (k : Result) : Result :=
  if s.platform.undefined = .refused then .refused .fpUnnormalized else k

/-- An operation on an operand that is not normalized: "the results of the instructions are undefined" (R300,
R302). Where the machine goes on, the word is a free one, normalized or true zero as every result is (R302), G and L
tell its sign (R304), and C and V, and with V the fault, are free (log 17). -/
def fpUndefined (len : Half) (a1 : BitVec 18) (s : State) : Result :=
  unnormalized s <|
    fpResultInto len a1 (s.freeBit 0)
      { fpLoadResult (Config.freeFull (s.draws + 2)) with v := s.freeBit 1 } (s.drawn 3)

/-- Load: C undefined (R305, R308). -/
def fpLoad (len : Half) (a1 : BitVec 18) (w : Full) (s : State) : Result :=
  fpResultInto len a1 (s.freeBit 0) (fpLoadResult w) (s.drawn 1)

/-- Add (R311). -/
def fpAddInto (len : Half) (a1 : BitVec 18) (a b : Full) (s : State) : Result :=
  if fpAccepted a && fpAccepted b then
    fpResultInto len a1 (s.freeBit 0) (fpAdd s.platform.addGuardDigits (fpFields a) (fpFields b)) (s.drawn 1)
  else fpUndefined len a1 s

/-- Subtract: the add procedure with the second sign inverted (R313). -/
def fpSubInto (len : Half) (a1 : BitVec 18) (a b : Full) (s : State) : Result :=
  if fpAccepted a && fpAccepted b then
    let y := fpFields b
    fpResultInto len a1 (s.freeBit 0)
      (fpAdd s.platform.addGuardDigits (fpFields a) { y with sign := !y.sign }) (s.drawn 1)
  else fpUndefined len a1 s

/-- Compare: C, G and L by the algebraic order, V undefined (R315). -/
def fpCompare (len : Half) (a b : Full) (s : State) : Result :=
  if fpAccepted a && fpAccepted b then
    let less := decide (fpValue a < fpValue b)
    .next (((s.setCC (ccOf less (s.freeBit 0) (decide (fpValue b < fpValue a)) less)).drawn 1).advance len)
  else unnormalized s (.next (((s.setCC s.freeCC).drawn 4).advance len))

/-- Multiply (R317). -/
def fpMulInto (len : Half) (a1 : BitVec 18) (a b : Full) (s : State) : Result :=
  if fpAccepted a && fpAccepted b then
    fpResultInto len a1 (s.freeBit 0)
      (fpMul s.platform.mulRound Config.productRounding (fpFields a) (fpFields b)) (s.drawn 1)
  else fpUndefined len a1 s

/-- Divide: a true zero divisor leaves the register unchanged and sets C and V; overflow and underflow reset C,
otherwise C is undefined (R319; D45, log 39). -/
def fpDivInto (len : Half) (a1 : BitVec 18) (a b : Full) (s : State) : Result :=
  if fpAccepted a && fpAccepted b then
    if b = 0 then fpEnd len true (s.setCC (ccOf true true false false))
    else
      let r := fpDiv s.platform.divRound Config.quotientRounding (fpFields a) (fpFields b)
      fpResultInto len a1 (!r.v && s.freeBit 0) r (s.drawn 1)
  else fpUndefined len a1 s

/-! Instructions -/

/-- LER (R308). -/
def execLer (r1 r2 : Reg) (s : State) : Result :=
  withFpr s r1 fun a1 => withFpr s r2 fun a2 => attempt (s.readFpr a2) fun w => fpLoad 2 a1 w s

/-- LE (R309). -/
def execLe (r1 x2 : Reg) (a2 : Half) (s : State) : Result :=
  withFpr s r1 fun a1 => attempt (s.operandFull a2 x2) fun w => fpLoad 4 a1 w s

/-- STE: the word goes out as it is (R310). -/
def execSte (r1 x2 : Reg) (a2 : Half) (s : State) : Result :=
  withFpr s r1 fun a1 => attempt (s.readFpr a1) fun w =>
    attempt (s.writeFull s.obank (s.sum a2 x2) w) fun t => .next (t.advance 4)

/-- AER (R311). -/
def execAer (r1 r2 : Reg) (s : State) : Result := fpRegisters r1 r2 s fun a1 a b => fpAddInto 2 a1 a b s

/-- AE (R312). -/
def execAe (r1 x2 : Reg) (a2 : Half) (s : State) : Result :=
  fpStorage r1 x2 a2 s fun a1 a b => fpAddInto 4 a1 a b s

/-- SER (R313). -/
def execSer (r1 r2 : Reg) (s : State) : Result := fpRegisters r1 r2 s fun a1 a b => fpSubInto 2 a1 a b s

/-- SE (R314). -/
def execSe (r1 x2 : Reg) (a2 : Half) (s : State) : Result :=
  fpStorage r1 x2 a2 s fun a1 a b => fpSubInto 4 a1 a b s

/-- CER (R315). -/
def execCer (r1 r2 : Reg) (s : State) : Result := fpRegisters r1 r2 s fun _ a b => fpCompare 2 a b s

/-- CE (R316). -/
def execCe (r1 x2 : Reg) (a2 : Half) (s : State) : Result :=
  fpStorage r1 x2 a2 s fun _ a b => fpCompare 4 a b s

/-- MER (R317). -/
def execMer (r1 r2 : Reg) (s : State) : Result := fpRegisters r1 r2 s fun a1 a b => fpMulInto 2 a1 a b s

/-- ME (R318). -/
def execMe (r1 x2 : Reg) (a2 : Half) (s : State) : Result :=
  fpStorage r1 x2 a2 s fun a1 a b => fpMulInto 4 a1 a b s

/-- DER (R319). -/
def execDer (r1 r2 : Reg) (s : State) : Result := fpRegisters r1 r2 s fun a1 a b => fpDivInto 2 a1 a b s

/-- DE (R320). -/
def execDe (r1 x2 : Reg) (a2 : Half) (s : State) : Result :=
  fpStorage r1 x2 a2 s fun a1 a b => fpDivInto 4 a1 a b s

end Sys2Proof.Machine
end

