-- ==== Sys2Proof/Machine/InputOutput.lean ====
section
/-! DEFINITION. Input and output instructions (47_io_and_list.md sections 1 to 5). All are privileged (R360). The
device oracle of R361 is a queue of answers in the state; each request that leaves the processor is logged. -/

namespace Sys2Proof.Machine

/-- Sends a request to the devices and takes the oracle's next answer: the head of the queue, or a free answer when
none is queued (R361; log 30). -/
def State.ask (s : State) (q : DeviceRequest) : DeviceAnswer × State :=
  let t := { s with requests := s.requests ++ [q] }
  match t.answers with
  | [] => (Config.deviceAnswer t.draws, t.drawn 1)
  | a :: rest => (a, { t with answers := rest })

/-- The status byte delivered: on a time-out bits 0:3 are zero and bit 5 is one (R362(a)). -/
def statusByte (a : DeviceAnswer) : Byte :=
  if a.timeout then (a.status &&& 0x0B) ||| 0x04 else a.status

/-- `Device.ack()`: with no device requesting an interrupt the oracle answers with a time-out (R363); otherwise, unless
it times out, with the number of an interrupting device (R361). A queued answer that names another device is read as the
first that requests one: DESIGN CHOICE, log 33. -/
def acknowledgement (pending : List Byte) (a : DeviceAnswer) : DeviceAnswer :=
  match pending with
  | [] => { a with timeout := true }
  | d :: _ => if a.timeout || pending.contains a.device then a else { a with device := d }

/-- Sends the acknowledgement and takes its answer. -/
def State.askAck (s : State) : DeviceAnswer × State :=
  let (a, t) := s.ask .ack
  (acknowledgement s.pending a, t)

/-- The number of the interrupting device replaces R1 (R363). On a time-out R362 infers that nothing but the status byte is
written, and the procedures of R363 and R364 write the number, which is unspecified: which of the two is free (log 33). -/
def State.takeNumber (s : State) (r1 : Reg) (a : DeviceAnswer) : State :=
  (s.setReg r1 (if a.timeout && s.freeBit 0 then s.reg r1 else zextByte a.device)).drawn a.timeout.toNat

/-- The device interrupt condition of an acknowledged device is cleared (R363). -/
def State.acknowledged (s : State) (a : DeviceAnswer) : State :=
  if a.timeout then s else { s with pending := s.pending.erase a.device }

/-! Acknowledge, sense, command -/

/-- AIR: device number to R1, then status to R2 (R363). -/
def execAir (r1 r2 : Reg) (s : State) : Result :=
  privileged 2 s
    (let (a, t) := s.askAck
     .next (((((t.takeNumber r1 a).setReg r2 (zextByte (statusByte a))).setStatusCC
       (statusByte a)).acknowledged a).advance 2))

/-- AI: the address is formed before R1 is written (R364). -/
def execAi (r1 x2 : Reg) (a2 : Half) (s : State) : Result :=
  privileged 4 s
    (let (a, t) := s.askAck
     attempt ((t.takeNumber r1 a).writeByte s.obank (s.sum a2 x2) (statusByte a)) fun u =>
       .next (((u.setStatusCC (statusByte a)).acknowledged a).advance 4))

/-- SSR (R365). -/
def execSsr (r1 r2 : Reg) (s : State) : Result :=
  privileged 2 s
    (let (a, t) := s.ask (.sense (s.device r1))
     .next (((t.setReg r2 (zextByte (statusByte a))).setStatusCC (statusByte a)).advance 2))

/-- SS (R366). -/
def execSs (r1 x2 : Reg) (a2 : Half) (s : State) : Result :=
  privileged 4 s
    (let (a, t) := s.ask (.sense (s.device r1))
     attempt (t.writeByte s.obank (s.sum a2 x2) (statusByte a)) fun u =>
       .next ((u.setStatusCC (statusByte a)).advance 4))

/-- Sends a command byte; V on a time-out or when the device cannot complete it (R362(b), R367). -/
def sendCommand (len : Half) (d c : Byte) (s : State) : State :=
  let (a, t) := s.ask (.command d c)
  (t.setTransferCC (a.timeout || a.fail)).advance len

/-- OCR (R367). -/
def execOcr (r1 r2 : Reg) (s : State) : Result :=
  privileged 2 s (.next (sendCommand 2 (s.device r1) (lowByte (s.reg r2)) s))

/-- OC (R368). -/
def execOc (r1 x2 : Reg) (a2 : Half) (s : State) : Result :=
  privileged 4 s (attempt (s.operandByte a2 x2) fun c => .next (sendCommand 4 (s.device r1) c s))

/-! Byte transfer -/

/-- RDR: on a time-out R2 is unchanged (R369). -/
def execRdr (r1 r2 : Reg) (s : State) : Result :=
  privileged 2 s
    (let (a, t) := s.ask (.read8 (s.device r1))
     let u := if a.timeout then t else t.setReg r2 (zextByte a.byte)
     .next ((u.setTransferCC a.timeout).advance 2))

/-- RD: on a time-out memory is unchanged and not accessed (R370). -/
def execRd (r1 x2 : Reg) (a2 : Half) (s : State) : Result :=
  privileged 4 s
    (let (a, t) := s.ask (.read8 (s.device r1))
     attempt (if a.timeout then .ok t else t.writeByte s.obank (s.sum a2 x2) a.byte) fun u =>
       .next ((u.setTransferCC a.timeout).advance 4))

/-- Sends a data byte (R371). -/
def sendByte (len : Half) (d b : Byte) (s : State) : State :=
  let (a, t) := s.ask (.write8 d b)
  (t.setTransferCC a.timeout).advance len

/-- WDR (R371). -/
def execWdr (r1 r2 : Reg) (s : State) : Result :=
  privileged 2 s (.next (sendByte 2 (s.device r1) (lowByte (s.reg r2)) s))

/-- WD (R372). -/
def execWd (r1 x2 : Reg) (a2 : Half) (s : State) : Result :=
  privileged 4 s (attempt (s.operandByte a2 x2) fun b => .next (sendByte 4 (s.device r1) b s))

/-! Halfword transfer -/

/-- RHR (R374). -/
def execRhr (r1 r2 : Reg) (s : State) : Result :=
  privileged 2 s
    (let (a, t) := s.ask (.read16 (s.device r1))
     let u := if a.timeout then t else t.setReg r2 a.half
     .next ((u.setTransferCC a.timeout).advance 2))

/-- RH (R375). -/
def execRh (r1 x2 : Reg) (a2 : Half) (s : State) : Result :=
  privileged 4 s
    (let (a, t) := s.ask (.read16 (s.device r1))
     attempt (if a.timeout then .ok t else t.writeHalf s.obank (s.sum a2 x2) a.half) fun u =>
       .next ((u.setTransferCC a.timeout).advance 4))

/-- Sends a halfword (R376). -/
def sendHalf (len : Half) (d : Byte) (h : Half) (s : State) : State :=
  let (a, t) := s.ask (.write16 d h)
  (t.setTransferCC a.timeout).advance len

/-- WHR (R376). -/
def execWhr (r1 r2 : Reg) (s : State) : Result :=
  privileged 2 s (.next (sendHalf 2 (s.device r1) (s.reg r2) s))

/-- WH (R377). -/
def execWh (r1 x2 : Reg) (a2 : Half) (s : State) : Result :=
  privileged 4 s (attempt (s.operandHalf a2 x2) fun h => .next (sendHalf 4 (s.device r1) h s))

/-! Block transfer -/

/-- The condition of a block operation: a transfer of fewer bytes than asked has a nonzero condition (R361), a free
one where the answer gives zero (log 32). -/
def State.blockCondition (s : State) (cc : BitVec 4) (complete : Bool) : BitVec 4 :=
  if complete || cc != 0 then cc
  else
    let free := Config.freeCondition s.draws
    if free = 0 then 4 else free

/-- Number of bytes of a block from `start` to `stop`, both included (R382). -/
def blockLength (start stop : Half) : Nat := stop.toNat - start.toNat + 1

/-- Reads a block into the operand bank; no transfer when the start is above the end (R378, R382; D30, log 31). -/
def readBlock (len : Half) (d : Byte) (start stop : Half) (s : State) : Result :=
  if stop.toNat < start.toNat then .next ((s.setCC 0).advance len)
  else
    let k := blockLength start stop
    let (a, t) := s.ask (.blockIn d k)
    let bytes := a.bytes.take k
    attempt (t.writeBytes s.obank start bytes) fun u =>
      .next (((u.setCC (u.blockCondition a.cc (bytes.length == k))).drawn 1).advance len)

/-- Writes a block from the operand bank (R380, R382). -/
def writeBlock (len : Half) (d : Byte) (start stop : Half) (s : State) : Result :=
  if stop.toNat < start.toNat then .next ((s.setCC 0).advance len)
  else
    let k := blockLength start stop
    attempt (s.readBytes s.obank start k) fun bytes =>
      let (a, t) := s.ask (.blockOut d bytes)
      .next (((t.setCC (t.blockCondition a.cc (decide (k ≤ a.accepted)))).drawn 1).advance len)

/-- The two limit halfwords of an RX block instruction, at `e` and `e + 2` of the operand bank (R379). -/
def withLimits (e : Half) (s : State) (k : Half → Half → Result) : Result :=
  attempt (s.readHalf s.obank e) fun start => attempt (s.readHalf s.obank (e + 2)) fun stop => k start stop

/-- RBR: the limits are in R2 and R2 + 1 (R378). -/
def execRbr (r1 r2 : Reg) (s : State) : Result :=
  privileged 2 s (atMost 14 r2 (readBlock 2 (s.device r1) (s.reg r2) (s.reg (r2 + 1)) s))

/-- RB (R379). -/
def execRb (r1 x2 : Reg) (a2 : Half) (s : State) : Result :=
  privileged 4 s (withLimits (s.sum a2 x2) s fun start stop => readBlock 4 (s.device r1) start stop s)

/-- WBR (R380). -/
def execWbr (r1 r2 : Reg) (s : State) : Result :=
  privileged 2 s (atMost 14 r2 (writeBlock 2 (s.device r1) (s.reg r2) (s.reg (r2 + 1)) s))

/-- WB (R381). -/
def execWb (r1 x2 : Reg) (a2 : Half) (s : State) : Result :=
  privileged 4 s (withLimits (s.sum a2 x2) s fun start stop => writeBlock 4 (s.device r1) start stop s)

/-- How many bytes Autoload asks for: at least one, up to the byte at `last` (R373). -/
def autoloadLength (last : Half) : Nat := if last.toNat < 0x80 then 1 else last.toNat - 0x80 + 1

/-- AL: device number at X'78', command at X'79', data from X'80' up, all in bank 0; leading zero bytes are
ignored (R373; D30, log 31). -/
def execAl (r1 x2 : Reg) (a2 : Half) (s : State) : Result :=
  privileged 4 s (zeroField r1
    (attempt (s.readByte 0 0x0078) fun d =>
      attempt (s.readByte 0 0x0079) fun c =>
        let k := autoloadLength (s.sum a2 x2)
        let (a, t) := s.ask (.autoload d c k)
        let bytes := (a.bytes.dropWhile (· == 0)).take k
        attempt (t.writeBytes 0 0x0080 bytes) fun u =>
          .next (((u.setCC (u.blockCondition a.cc (bytes.length == k))).drawn 1).advance 4)))

end Sys2Proof.Machine
end

