-- ==== Sys2Proof/Machine/ListProcessing.lean ====
section
/-! DEFINITION. List processing instructions (47_io_and_list.md section 6). Not privileged; C and L are always
reset. -/

namespace Sys2Proof.Machine

/-- The four parameter bytes of a circular list (R390). -/
structure ListHead where
  /-- Number of slots. -/
  slots : Byte
  /-- Slots in use. -/
  used : Byte
  /-- Current Top Pointer. -/
  top : Byte
  /-- Next Bottom Pointer. -/
  bottom : Byte
  deriving DecidableEq, Repr

/-- `u <= n` and, when n > 0, `t < n` and `b < n` (R390). -/
def ListHead.consistent (h : ListHead) : Bool :=
  decide (h.used.toNat ≤ h.slots.toNat) &&
    (h.slots == 0 || decide (h.top.toNat < h.slots.toNat) && decide (h.bottom.toNat < h.slots.toNat))

/-- The pointer one slot up: past the maximum slot it wraps to 0 (R392, R393). -/
def ListHead.up (h : ListHead) (p : Byte) : Byte := if h.slots.toNat - 1 < p.toNat + 1 then 0 else p + 1

/-- The pointer one slot down: from 0 it wraps to the maximum slot (R391, R394). -/
def ListHead.down (h : ListHead) (p : Byte) : Byte := if p = 0 then h.slots - 1 else p - 1

/-- The address of slot `p` of the list at `a`, wrapping in the bank (R390, 20_memory.md R79). -/
def slotAddress (a : Half) (p : Byte) : Half := a + 4 + 2 * zextByte p

/-- The parameters of the list at `a`: an odd address faults, inconsistent parameters are refused (R390; D31,
log 35). -/
def withList (a : Half) (s : State) (k : ListHead → Result) : Result :=
  if a.getLsbD 0 then .fault .misaligned
  else
    attempt (s.readByte s.obank a) fun n =>
      attempt (s.readByte s.obank (a + 1)) fun u =>
        attempt (s.readByte s.obank (a + 2)) fun t =>
          attempt (s.readByte s.obank (a + 3)) fun b =>
            let h : ListHead := { slots := n, used := u, top := t, bottom := b }
            if h.consistent then k h else .refused .listInconsistent

/-- List overflow or underflow: only the Condition Code, V set (R391, R393). -/
def listFails (s : State) : Result := .next ((s.setCC (ccOf false true false false)).advance 4)

/-- Stores R1 in slot `p`, then the tally and the pointer byte at `a + pointer` (R391, R392). -/
def listAdd (a : Half) (r1 : Reg) (p : Byte) (used : Byte) (pointer : Half) (value : Byte) (s : State) : Result :=
  attempt (s.writeHalf s.obank (slotAddress a p) (s.reg r1)) fun s1 =>
    attempt (s1.writeByte s.obank (a + 1) used) fun s2 =>
      attempt (s2.writeByte s.obank (a + pointer) value) fun s3 => .next ((s3.setCC 0).advance 4)

/-- Loads R1 from slot `p`, then stores the tally and the pointer byte at `a + pointer`; G tells a list that is not
yet empty (R393, R394). -/
def listRemove (a : Half) (r1 : Reg) (p : Byte) (used : Byte) (pointer : Half) (value : Byte) (s : State) : Result :=
  attempt (s.readHalf s.obank (slotAddress a p)) fun v =>
    attempt ((s.setReg r1 v).writeByte s.obank (a + 1) used) fun s1 =>
      attempt (s1.writeByte s.obank (a + pointer) value) fun s2 =>
        .next ((s2.setCC (ccOf false false (used != 0) false)).advance 4)

/-- ATL (R391). -/
def execAtl (r1 x2 : Reg) (a2 : Half) (s : State) : Result :=
  let a := s.sum a2 x2
  withList a s fun h =>
    if h.used = h.slots then listFails s
    else listAdd a r1 (h.down h.top) (h.used + 1) 2 (h.down h.top) s

/-- ABL (R392). -/
def execAbl (r1 x2 : Reg) (a2 : Half) (s : State) : Result :=
  let a := s.sum a2 x2
  withList a s fun h =>
    if h.used = h.slots then listFails s
    else listAdd a r1 h.bottom (h.used + 1) 3 (h.up h.bottom) s

/-- RTL (R393). -/
def execRtl (r1 x2 : Reg) (a2 : Half) (s : State) : Result :=
  let a := s.sum a2 x2
  withList a s fun h =>
    if h.used = 0 then listFails s
    else listRemove a r1 h.top (h.used - 1) 2 (h.up h.top) s

/-- RBL (R394). -/
def execRbl (r1 x2 : Reg) (a2 : Half) (s : State) : Result :=
  let a := s.sum a2 x2
  withList a s fun h =>
    if h.used = 0 then listFails s
    else listRemove a r1 (h.down h.bottom) (h.used - 1) 3 (h.down h.bottom) s

end Sys2Proof.Machine
end

