-- ==== Sys2Proof/Machine/ListedOnly.lean ====
section
/-! DEFINITION. The operations of which the source gives a code and a name only (48_listed_only.md R410): they decode
and are refused. Nothing about their operands, results or flags is in the source. -/

namespace Sys2Proof.Machine

/-- LCNHR (R411). -/
def execLcnhr (_r1 _r2 : Reg) (_s : State) : Result := .refused .listedOnly

/-- LAVR (R413). -/
def execLavr (_r1 _r2 : Reg) (_s : State) : Result := .refused .listedOnly

/-- LCHR (R415). -/
def execLchr (_r1 _r2 : Reg) (_s : State) : Result := .refused .listedOnly

/-- CLDPR (R420). -/
def execCldpr (_r1 _r2 : Reg) (_s : State) : Result := .refused .listedOnly

/-- LDPR (R421). -/
def execLdpr (_r1 _r2 : Reg) (_s : State) : Result := .refused .listedOnly

/-- CDPR (R422). -/
def execCdpr (_r1 _r2 : Reg) (_s : State) : Result := .refused .listedOnly

/-- ADPR (R423). -/
def execAdpr (_r1 _r2 : Reg) (_s : State) : Result := .refused .listedOnly

/-- SDPR (R424). -/
def execSdpr (_r1 _r2 : Reg) (_s : State) : Result := .refused .listedOnly

/-- MDPR (R425). -/
def execMdpr (_r1 _r2 : Reg) (_s : State) : Result := .refused .listedOnly

/-- DDPR (R426). -/
def execDdpr (_r1 _r2 : Reg) (_s : State) : Result := .refused .listedOnly

/-- STDP (R427). -/
def execStdp (_r1 _x2 : Reg) (_a2 : Half) (_s : State) : Result := .refused .listedOnly

/-- LCNH (R412). -/
def execLcnh (_r1 _x2 : Reg) (_a2 : Half) (_s : State) : Result := .refused .listedOnly

/-- LAV (R414). -/
def execLav (_r1 _x2 : Reg) (_a2 : Half) (_s : State) : Result := .refused .listedOnly

/-- LCH (R416). -/
def execLch (_r1 _x2 : Reg) (_a2 : Half) (_s : State) : Result := .refused .listedOnly

/-- CLDP (R428). -/
def execCldp (_r1 _x2 : Reg) (_a2 : Half) (_s : State) : Result := .refused .listedOnly

/-- LDP (R429). -/
def execLdp (_r1 _x2 : Reg) (_a2 : Half) (_s : State) : Result := .refused .listedOnly

/-- CDP (R430). -/
def execCdp (_r1 _x2 : Reg) (_a2 : Half) (_s : State) : Result := .refused .listedOnly

/-- ADP (R431). -/
def execAdp (_r1 _x2 : Reg) (_a2 : Half) (_s : State) : Result := .refused .listedOnly

/-- SDP (R432). -/
def execSdp (_r1 _x2 : Reg) (_a2 : Half) (_s : State) : Result := .refused .listedOnly

/-- MDP (R433). -/
def execMdp (_r1 _x2 : Reg) (_a2 : Half) (_s : State) : Result := .refused .listedOnly

/-- DDP (R434). -/
def execDdp (_r1 _x2 : Reg) (_a2 : Half) (_s : State) : Result := .refused .listedOnly

/-- RESB (R417). -/
def execResb (_r1 _x2 : Reg) (_i2 : Half) (_s : State) : Result := .refused .listedOnly

/-- SESB (R418). -/
def execSesb (_r1 _x2 : Reg) (_i2 : Half) (_s : State) : Result := .refused .listedOnly

/-- SRQL (R435). -/
def execSrql (_r1 _x2 : Reg) (_i2 : Half) (_s : State) : Result := .refused .listedOnly

/-- SLQL (R436). -/
def execSlql (_r1 _x2 : Reg) (_i2 : Half) (_s : State) : Result := .refused .listedOnly

/-- SRQA (R437). -/
def execSrqa (_r1 _x2 : Reg) (_i2 : Half) (_s : State) : Result := .refused .listedOnly

/-- SLQA (R438). -/
def execSlqa (_r1 _x2 : Reg) (_i2 : Half) (_s : State) : Result := .refused .listedOnly

end Sys2Proof.Machine
end

