-- ==== Sys2Proof/Machine/LoadStore.lean ====
section
/-! DEFINITION. Fixed-point load and store instructions (40_load_store.md). -/

namespace Sys2Proof.Machine

/-- A load of `v` into R1 by an instruction of `len` bytes (R156). -/
def loadInto (len : Half) (r1 : Reg) (v : Half) (s : State) : State :=
  ((s.setReg r1 v).setLoadCC v).advance len

/-- A load of the halfword at `e` of bank `b`. -/
def loadFrom (b : Bank) (e : Half) (r1 : Reg) (s : State) : Result :=
  attempt (s.readHalf b e) fun v => .next (loadInto 4 r1 v s)

/-- A store of R1 at `e` of bank `b`; the Condition Code is unchanged. -/
def storeTo (b : Bank) (e : Half) (r1 : Reg) (s : State) : Result :=
  attempt (s.writeHalf b e (s.reg r1)) fun t => .next (t.advance 4)

/-- Registers `k`, `k + 1`, ... receive the listed values. -/
def State.setRegsFrom (s : State) (k : Nat) : List Half → State
  | [] => s
  | v :: vs => (s.setReg (Fin.ofNat 16 k) v).setRegsFrom (k + 1) vs

/-- The contents of registers R1 to R15. -/
def State.regsFrom (s : State) (r1 : Reg) : List Half :=
  (List.range (16 - r1.val)).map fun i => s.reg (Fin.ofNat 16 (r1.val + i))

/-- LIS (R140). -/
def execLis (r1 : Reg) (n : BitVec 4) (s : State) : Result := .next (loadInto 2 r1 (literal n) s)

/-- LCS: the two's complement of the literal (R141). -/
def execLcs (r1 : Reg) (n : BitVec 4) (s : State) : Result := .next (loadInto 2 r1 (-(literal n)) s)

/-- LHR (R142). -/
def execLhr (r1 r2 : Reg) (s : State) : Result := .next (loadInto 2 r1 (s.reg r2) s)

/-- LH (R143). -/
def execLh (r1 x2 : Reg) (a2 : Half) (s : State) : Result := loadFrom s.obank (s.sum a2 x2) r1 s

/-- LHI (R144). -/
def execLhi (r1 x2 : Reg) (i2 : Half) (s : State) : Result := .next (loadInto 4 r1 (s.sum i2 x2) s)

/-- LH0: bank 0 (R145). -/
def execLh0 (r1 x2 : Reg) (a2 : Half) (s : State) : Result := loadFrom 0 (s.sum a2 x2) r1 s

/-- LH1: bank 1 (R146). -/
def execLh1 (r1 x2 : Reg) (a2 : Half) (s : State) : Result := loadFrom 1 (s.sum a2 x2) r1 s

/-- LH2: bank 2 (R147). -/
def execLh2 (r1 x2 : Reg) (a2 : Half) (s : State) : Result := loadFrom 2 (s.sum a2 x2) r1 s

/-- LH3: bank 3 (R148). -/
def execLh3 (r1 x2 : Reg) (a2 : Half) (s : State) : Result := loadFrom 3 (s.sum a2 x2) r1 s

/-- LM: registers R1 to R15 from successive halfwords; the index is read once (R149; D37, log 37). -/
def execLm (r1 x2 : Reg) (a2 : Half) (s : State) : Result :=
  attempt (s.readHalves s.obank (s.sum a2 x2) (16 - r1.val)) fun vs =>
    .next ((s.setRegsFrom r1.val vs).advance 4)

/-- STM: registers R1 to R15 to successive halfwords (R150). -/
def execStm (r1 x2 : Reg) (a2 : Half) (s : State) : Result :=
  attempt (s.writeHalves s.obank (s.sum a2 x2) (s.regsFrom r1)) fun t => .next (t.advance 4)

/-- STH (R151). -/
def execSth (r1 x2 : Reg) (a2 : Half) (s : State) : Result := storeTo s.obank (s.sum a2 x2) r1 s

/-- STH0: bank 0 (R152). -/
def execSth0 (r1 x2 : Reg) (a2 : Half) (s : State) : Result := storeTo 0 (s.sum a2 x2) r1 s

/-- STH1: bank 1 (R153). -/
def execSth1 (r1 x2 : Reg) (a2 : Half) (s : State) : Result := storeTo 1 (s.sum a2 x2) r1 s

/-- STH2: bank 2 (R154). -/
def execSth2 (r1 x2 : Reg) (a2 : Half) (s : State) : Result := storeTo 2 (s.sum a2 x2) r1 s

/-- STH3: bank 3 (R155). -/
def execSth3 (r1 x2 : Reg) (a2 : Half) (s : State) : Result := storeTo 3 (s.sum a2 x2) r1 s

end Sys2Proof.Machine
end

