-- ==== Sys2Proof/Machine/Logical.lean ====
section
/-! DEFINITION. Logical, compare and byte handling instructions (42_logical_compare_byte.md). A logical result sets
the Condition Code as a load does (R200). -/

namespace Sys2Proof.Machine

/-- NHR (R201). -/
def execNhr (r1 r2 : Reg) (s : State) : Result := .next (loadInto 2 r1 (s.reg r1 &&& s.reg r2) s)

/-- NH (R202). -/
def execNh (r1 x2 : Reg) (a2 : Half) (s : State) : Result :=
  attempt (s.operandHalf a2 x2) fun b => .next (loadInto 4 r1 (s.reg r1 &&& b) s)

/-- NHI (R203). -/
def execNhi (r1 x2 : Reg) (i2 : Half) (s : State) : Result :=
  .next (loadInto 4 r1 (s.reg r1 &&& s.sum i2 x2) s)

/-- OHR (R204). -/
def execOhr (r1 r2 : Reg) (s : State) : Result := .next (loadInto 2 r1 (s.reg r1 ||| s.reg r2) s)

/-- OH (R205). -/
def execOh (r1 x2 : Reg) (a2 : Half) (s : State) : Result :=
  attempt (s.operandHalf a2 x2) fun b => .next (loadInto 4 r1 (s.reg r1 ||| b) s)

/-- OHI (R206). -/
def execOhi (r1 x2 : Reg) (i2 : Half) (s : State) : Result :=
  .next (loadInto 4 r1 (s.reg r1 ||| s.sum i2 x2) s)

/-- XHR (R207). -/
def execXhr (r1 r2 : Reg) (s : State) : Result := .next (loadInto 2 r1 (s.reg r1 ^^^ s.reg r2) s)

/-- XH (R208). -/
def execXh (r1 x2 : Reg) (a2 : Half) (s : State) : Result :=
  attempt (s.operandHalf a2 x2) fun b => .next (loadInto 4 r1 (s.reg r1 ^^^ b) s)

/-- XHI (R209). -/
def execXhi (r1 x2 : Reg) (i2 : Half) (s : State) : Result :=
  .next (loadInto 4 r1 (s.reg r1 ^^^ s.sum i2 x2) s)

/-- THI: only the Condition Code is written (R210). -/
def execThi (r1 x2 : Reg) (i2 : Half) (s : State) : Result :=
  .next ((s.setLoadCC (s.reg r1 &&& s.sum i2 x2)).advance 4)

/-- CLHR (R211). -/
def execClhr (r1 r2 : Reg) (s : State) : Result :=
  .next ((s.setLogicalCompareCC (s.reg r1) (s.reg r2)).advance 2)

/-- CLH (R212). -/
def execClh (r1 x2 : Reg) (a2 : Half) (s : State) : Result :=
  attempt (s.operandHalf a2 x2) fun b => .next ((s.setLogicalCompareCC (s.reg r1) b).advance 4)

/-- CLHI (R213). -/
def execClhi (r1 x2 : Reg) (i2 : Half) (s : State) : Result :=
  .next ((s.setLogicalCompareCC (s.reg r1) (s.sum i2 x2)).advance 4)

/-- CHR (R214). -/
def execChr (r1 r2 : Reg) (s : State) : Result :=
  .next ((s.setCompareCC (s.reg r1) (s.reg r2)).advance 2)

/-- CH (R215). -/
def execCh (r1 x2 : Reg) (a2 : Half) (s : State) : Result :=
  attempt (s.operandHalf a2 x2) fun b => .next ((s.setCompareCC (s.reg r1) b).advance 4)

/-- CHI (R216). -/
def execChi (r1 x2 : Reg) (i2 : Half) (s : State) : Result :=
  .next ((s.setCompareCC (s.reg r1) (s.sum i2 x2)).advance 4)

/-- LBR (R220). -/
def execLbr (r1 r2 : Reg) (s : State) : Result :=
  .next ((s.setReg r1 (zextByte (lowByte (s.reg r2)))).advance 2)

/-- LB (R221). -/
def execLb (r1 x2 : Reg) (a2 : Half) (s : State) : Result :=
  attempt (s.operandByte a2 x2) fun b => .next ((s.setReg r1 (zextByte b)).advance 4)

/-- STBR: the destination is R2, whose left-most byte is kept (R222). -/
def execStbr (r1 r2 : Reg) (s : State) : Result :=
  .next ((s.setReg r2 (highByte (s.reg r2) ++ lowByte (s.reg r1))).advance 2)

/-- STB (R223). -/
def execStb (r1 x2 : Reg) (a2 : Half) (s : State) : Result :=
  attempt (s.writeByte s.obank (s.sum a2 x2) (lowByte (s.reg r1))) fun t => .next (t.advance 4)

/-- EXBR (R224). -/
def execExbr (r1 r2 : Reg) (s : State) : Result :=
  .next ((s.setReg r1 (lowByte (s.reg r2) ++ highByte (s.reg r2))).advance 2)

/-- CLB (R225). -/
def execClb (r1 x2 : Reg) (a2 : Half) (s : State) : Result :=
  attempt (s.operandByte a2 x2) fun b =>
    .next ((s.setLogicalCompareCC (lowByte (s.reg r1)) b).advance 4)

end Sys2Proof.Machine
end

