-- ==== Sys2Proof/Machine/Shift.lean ====
section
/-! DEFINITION. Shift and rotate instructions (43_shift_rotate.md). Bits are counted from the left, as in the
source. -/

namespace Sys2Proof.Machine

/-- A shifted operand with the last bit shifted out, which means something for a count of 1 or more. -/
structure Shifted (w : Nat) where
  /-- The result. -/
  value : BitVec w
  /-- The last bit shifted out. -/
  out : Bool
  deriving DecidableEq, Repr

/-- Left logical: zeros come in at the right, the last bit out is bit n - 1 (R241, R243). -/
def shiftLeftLogical {w : Nat} (v : BitVec w) (n : Nat) : Shifted w := ⟨v <<< n, v.getMsbD (n - 1)⟩

/-- Right logical: zeros come in at the left, the last bit out is bit w - n (R244, R246). -/
def shiftRightLogical {w : Nat} (v : BitVec w) (n : Nat) : Shifted w := ⟨v >>> n, v.getMsbD (w - n)⟩

/-- Left arithmetic: bit 0 is kept, bits leave at position 1, the last bit out is bit n (R249, R250). -/
def shiftLeftArithmetic {w : Nat} (v : BitVec w) (n : Nat) : Shifted w :=
  let m := v.toNat % 2 ^ (w - 1) * 2 ^ n % 2 ^ (w - 1)
  ⟨BitVec.ofNat w (v.msb.toNat * 2 ^ (w - 1) + m), v.getMsbD n⟩

/-- Right arithmetic: bit 0 is kept and propagated, the last bit out is bit w - n (R251, R252). -/
def shiftRightArithmetic {w : Nat} (v : BitVec w) (n : Nat) : Shifted w :=
  ⟨v.sshiftRight n, v.getMsbD (w - n)⟩

/-- Rotate left, end around (R247). -/
def rotateLeft {w : Nat} (v : BitVec w) (n : Nat) : BitVec w := v <<< n ||| v >>> (w - n)

/-- Rotate right, end around (R248). -/
def rotateRight {w : Nat} (v : BitVec w) (n : Nat) : BitVec w := v >>> n ||| v <<< (w - n)

/-- A halfword shift by `n` replaces R1 (R254). -/
def shiftInto (len : Half) (r1 : Reg) (n : Nat) (r : Shifted 16) (s : State) : State :=
  ((s.setReg r1 r.value).setShiftCC n r.out r.value).advance len

/-- A fullword shift by `n` replaces the pair at R1 (R254). -/
def shiftPairInto (r1 : Reg) (n : Nat) (r : Shifted 32) (s : State) : State :=
  ((s.setPair r1 r.value).setShiftCC n r.out r.value).advance 4

/-- A rotate replaces the pair at R1 (R255). -/
def rotatePairInto (r1 : Reg) (r : Full) (s : State) : State :=
  ((s.setPair r1 r).setRotateCC r).advance 4

/-- SLLS (R241). -/
def execSlls (r1 : Reg) (n : BitVec 4) (s : State) : Result :=
  .next (shiftInto 2 r1 n.toNat (shiftLeftLogical (s.reg r1) n.toNat) s)

/-- SLHL (R242). -/
def execSlhl (r1 x2 : Reg) (i2 : Half) (s : State) : Result :=
  let n := s.shiftCount4 i2 x2
  .next (shiftInto 4 r1 n (shiftLeftLogical (s.reg r1) n) s)

/-- SLL (R243). -/
def execSll (r1 x2 : Reg) (i2 : Half) (s : State) : Result :=
  let n := s.shiftCount5 i2 x2
  evenPair r1 (.next (shiftPairInto r1 n (shiftLeftLogical (s.pair r1) n) s))

/-- SRLS (R244). -/
def execSrls (r1 : Reg) (n : BitVec 4) (s : State) : Result :=
  .next (shiftInto 2 r1 n.toNat (shiftRightLogical (s.reg r1) n.toNat) s)

/-- SRHL (R245). -/
def execSrhl (r1 x2 : Reg) (i2 : Half) (s : State) : Result :=
  let n := s.shiftCount4 i2 x2
  .next (shiftInto 4 r1 n (shiftRightLogical (s.reg r1) n) s)

/-- SRL: the Carry comes from position 31 (R246; 90_conflicts.md C14). -/
def execSrl (r1 x2 : Reg) (i2 : Half) (s : State) : Result :=
  let n := s.shiftCount5 i2 x2
  evenPair r1 (.next (shiftPairInto r1 n (shiftRightLogical (s.pair r1) n) s))

/-- RLL (R247). -/
def execRll (r1 x2 : Reg) (i2 : Half) (s : State) : Result :=
  evenPair r1 (.next (rotatePairInto r1 (rotateLeft (s.pair r1) (s.shiftCount5 i2 x2)) s))

/-- RRL (R248). -/
def execRrl (r1 x2 : Reg) (i2 : Half) (s : State) : Result :=
  evenPair r1 (.next (rotatePairInto r1 (rotateRight (s.pair r1) (s.shiftCount5 i2 x2)) s))

/-- SLHA (R249). -/
def execSlha (r1 x2 : Reg) (i2 : Half) (s : State) : Result :=
  let n := s.shiftCount4 i2 x2
  .next (shiftInto 4 r1 n (shiftLeftArithmetic (s.reg r1) n) s)

/-- SLA (R250). -/
def execSla (r1 x2 : Reg) (i2 : Half) (s : State) : Result :=
  let n := s.shiftCount5 i2 x2
  evenPair r1 (.next (shiftPairInto r1 n (shiftLeftArithmetic (s.pair r1) n) s))

/-- SRHA (R251). -/
def execSrha (r1 x2 : Reg) (i2 : Half) (s : State) : Result :=
  let n := s.shiftCount4 i2 x2
  .next (shiftInto 4 r1 n (shiftRightArithmetic (s.reg r1) n) s)

/-- SRA (R252). -/
def execSra (r1 x2 : Reg) (i2 : Half) (s : State) : Result :=
  let n := s.shiftCount5 i2 x2
  evenPair r1 (.next (shiftPairInto r1 n (shiftRightArithmetic (s.pair r1) n) s))

end Sys2Proof.Machine
end

