-- ==== Sys2Proof/Machine/System.lean ====
section
/-! DEFINITION. System control instructions (46_system_control.md). -/

namespace Sys2Proof.Machine

/-- LPSW: privileged; the return from every interrupt (R340, 60_exceptions.md R551). -/
def execLpsw (r1 x2 : Reg) (a2 : Half) (s : State) : Result :=
  privileged 4 s (zeroField r1 (loadPsw (s.sum a2 x2) s))

/-- EPOR: the operand bank from bits 10:11 of R1, and the whole former Program Status into R1; R2 is ignored and
the instruction is not privileged (R341; D26, log 27). -/
def execEpor (r1 _r2 : Reg) (s : State) : Result :=
  .next (((s.setReg r1 s.ps).setObank ((s.reg r1).extractLsb' 4 2)).advance 2)

/-- EPPR: both bank fields from bits 8:11 of R1 and the location counter from R1 + 1; the former Program Status and
the address after the EPPR go into the pair. R2 is ignored and R1 need not be even (R342; D8, log 12). -/
def execEppr (r1 _r2 : Reg) (s : State) : Result :=
  if r1.val ≤ 14 then
    .next ((((s.setReg r1 s.ps).setReg (r1 + 1) (s.loc + 2)).setBanks ((s.reg r1).extractLsb' 4 4)).setLoc
      (s.reg (r1 + 1)))
  else .refused .pairBeyondR15

/-- EPSR: privileged; the Program Status goes to R1, then R2, read after that write (log 56), becomes the Program Status
(R343). -/
def execEpsr (r1 r2 : Reg) (s : State) : Result :=
  privileged 2 s
    (let t := s.setReg r1 s.ps
     .next ((t.setPs (t.reg r2)).advance 2))

/-- SINT: privileged; the least significant eight bits of the second operand are presented as a device number to the
device service, from the state that goes on with the next instruction (R344, 60_exceptions.md R548; log 34). -/
def execSint (r1 x2 : Reg) (i2 : Half) (s : State) : Result :=
  privileged 4 s (zeroField r1 (deviceService .sintNotSpecified (lowByte (s.sum i2 x2)) (s.advance 4)))

/-- SVC: the parameter pointer to X'0094', the PSW with the address of the next instruction to X'0096', the new
Program Status from X'009A' and the new location counter of call type R1 from X'009C' + 2 R1, all in bank 0
(R345, 60_exceptions.md R546; D3, D8, logs 7, 12). Not privileged. -/
def execSvc (r1 x2 : Reg) (i2 : Half) (s : State) : Result :=
  attempt (s.writeHalf 0 0x0094 (s.sum i2 x2)) fun s1 =>
    attempt (s1.writeFull 0 0x0096 (s.ps ++ (s.loc + 4))) fun s2 =>
      attempt (s2.readHalf 0 0x009A) fun p =>
        attempt (s2.readHalf 0 (0x009C + 2 * BitVec.ofNat 16 r1.val)) fun t =>
          .next ((s2.setPs p).setLoc t)

end Sys2Proof.Machine
end

