-- ==== Sys2Proof/Syntax.lean ====
section
/-! DEFINITION. Instruction syntax: one constructor for each row of the opcode table
(30_encoding.md R112 and, for the annex, 49_annex_central_computer.md R456). -/

namespace Sys2Proof

/-- The instructions. `r1`, `r2` and `x2` are 4-bit register fields, `m1` a branch mask (R111), `n` the
4-bit literal or displacement of the short format (R107, R110), `a2` and `i2` the 16-bit field of RX and
RI (R103, R105). In the annex rows `r` and `y` are the R and Y fields, `k` the shift count field, `n` the
ten indicator bits, `ch` a channel number, `x` and `y1` single bits (49 R453). -/
inductive Instr where
  -- Fixed-point load and store (40_load_store.md)
  /-- Load Halfword (R142). -/
  | lhr (r1 r2 : Reg)
  /-- Load Immediate Short (R140). -/
  | lis (r1 : Reg) (n : BitVec 4)
  /-- Load Complement Short (R141). -/
  | lcs (r1 : Reg) (n : BitVec 4)
  /-- Store Halfword (R151). -/
  | sth (r1 x2 : Reg) (a2 : Half)
  /-- Load Halfword (R143). -/
  | lh (r1 x2 : Reg) (a2 : Half)
  /-- Load from Bank 0 (R145). -/
  | lh0 (r1 x2 : Reg) (a2 : Half)
  /-- Load from Bank 1 (R146). -/
  | lh1 (r1 x2 : Reg) (a2 : Half)
  /-- Load from Bank 2 (R147). -/
  | lh2 (r1 x2 : Reg) (a2 : Half)
  /-- Load from Bank 3 (R148). -/
  | lh3 (r1 x2 : Reg) (a2 : Half)
  /-- Load Halfword Immediate (R144). -/
  | lhi (r1 x2 : Reg) (i2 : Half)
  /-- Store Multiple (R150). -/
  | stm (r1 x2 : Reg) (a2 : Half)
  /-- Load Multiple (R149). -/
  | lm (r1 x2 : Reg) (a2 : Half)
  /-- Store in Bank 0 (R152). -/
  | sth0 (r1 x2 : Reg) (a2 : Half)
  /-- Store in Bank 1 (R153). -/
  | sth1 (r1 x2 : Reg) (a2 : Half)
  /-- Store in Bank 2 (R154). -/
  | sth2 (r1 x2 : Reg) (a2 : Half)
  /-- Store in Bank 3 (R155). -/
  | sth3 (r1 x2 : Reg) (a2 : Half)
  -- Fixed-point arithmetic (41_fixed_point_arithmetic.md)
  /-- Add Halfword (R172). -/
  | ahr (r1 r2 : Reg)
  /-- Subtract Halfword (R179). -/
  | shr (r1 r2 : Reg)
  /-- Multiply Halfword (R185). -/
  | mhr (r1 r2 : Reg)
  /-- Divide Halfword (R189). -/
  | dhr (r1 r2 : Reg)
  /-- Add with Carry Halfword (R176). -/
  | achr (r1 r2 : Reg)
  /-- Subtract with Carry Halfword (R182). -/
  | schr (r1 r2 : Reg)
  /-- Add Immediate Short (R171). -/
  | ais (r1 : Reg) (n : BitVec 4)
  /-- Subtract Immediate Short (R178). -/
  | sis (r1 : Reg) (n : BitVec 4)
  /-- Add Halfword (R173). -/
  | ah (r1 x2 : Reg) (a2 : Half)
  /-- Subtract Halfword (R180). -/
  | sh (r1 x2 : Reg) (a2 : Half)
  /-- Multiply Halfword (R186). -/
  | mh (r1 x2 : Reg) (a2 : Half)
  /-- Divide Halfword (R190). -/
  | dh (r1 x2 : Reg) (a2 : Half)
  /-- Add with Carry Halfword (R177). -/
  | ach (r1 x2 : Reg) (a2 : Half)
  /-- Subtract with Carry Halfword (R183). -/
  | sch (r1 x2 : Reg) (a2 : Half)
  /-- Add Halfword to Memory (R175). -/
  | ahm (r1 x2 : Reg) (a2 : Half)
  /-- Multiply Halfword Unsigned (R187). -/
  | mhur (r1 r2 : Reg)
  /-- Add Halfword Immediate (R174). -/
  | ahi (r1 x2 : Reg) (i2 : Half)
  /-- Subtract Halfword Immediate (R181). -/
  | shi (r1 x2 : Reg) (i2 : Half)
  /-- Multiply Halfword Unsigned (R188). -/
  | mhu (r1 x2 : Reg) (a2 : Half)
  -- Logical, compare, byte (42_logical_compare_byte.md)
  /-- AND Halfword (R201). -/
  | nhr (r1 r2 : Reg)
  /-- Compare Logical Halfword (R211). -/
  | clhr (r1 r2 : Reg)
  /-- OR Halfword (R204). -/
  | ohr (r1 r2 : Reg)
  /-- Exclusive OR Halfword (R207). -/
  | xhr (r1 r2 : Reg)
  /-- Compare Halfword (R214). -/
  | chr (r1 r2 : Reg)
  /-- AND Halfword (R202). -/
  | nh (r1 x2 : Reg) (a2 : Half)
  /-- Compare Logical Halfword (R212). -/
  | clh (r1 x2 : Reg) (a2 : Half)
  /-- OR Halfword (R205). -/
  | oh (r1 x2 : Reg) (a2 : Half)
  /-- Exclusive OR Halfword (R208). -/
  | xh (r1 x2 : Reg) (a2 : Half)
  /-- Compare Halfword (R215). -/
  | ch (r1 x2 : Reg) (a2 : Half)
  /-- Store Byte (R222). -/
  | stbr (r1 r2 : Reg)
  /-- Load Byte (R220). -/
  | lbr (r1 r2 : Reg)
  /-- Exchange Byte (R224). -/
  | exbr (r1 r2 : Reg)
  /-- Test Halfword Immediate (R210). -/
  | thi (r1 x2 : Reg) (i2 : Half)
  /-- AND Halfword Immediate (R203). -/
  | nhi (r1 x2 : Reg) (i2 : Half)
  /-- Compare Logical Halfword Immediate (R213). -/
  | clhi (r1 x2 : Reg) (i2 : Half)
  /-- OR Halfword Immediate (R206). -/
  | ohi (r1 x2 : Reg) (i2 : Half)
  /-- Exclusive OR Halfword Immediate (R209). -/
  | xhi (r1 x2 : Reg) (i2 : Half)
  /-- Compare Halfword Immediate (R216). -/
  | chi (r1 x2 : Reg) (i2 : Half)
  /-- Store Byte (R223). -/
  | stb (r1 x2 : Reg) (a2 : Half)
  /-- Load Byte (R221). -/
  | lb (r1 x2 : Reg) (a2 : Half)
  /-- Compare Logical Byte (R225). -/
  | clb (r1 x2 : Reg) (a2 : Half)
  -- Shift and rotate (43_shift_rotate.md)
  /-- Shift Right Logical Short (R244). -/
  | srls (r1 : Reg) (n : BitVec 4)
  /-- Shift Left Logical Short (R241). -/
  | slls (r1 : Reg) (n : BitVec 4)
  /-- Shift Right Halfword Logical (R245). -/
  | srhl (r1 x2 : Reg) (i2 : Half)
  /-- Shift Left Halfword Logical (R242). -/
  | slhl (r1 x2 : Reg) (i2 : Half)
  /-- Shift Right Halfword Arithmetic (R251). -/
  | srha (r1 x2 : Reg) (i2 : Half)
  /-- Shift Left Halfword Arithmetic (R249). -/
  | slha (r1 x2 : Reg) (i2 : Half)
  /-- Rotate Right Fullword Logical (R248). -/
  | rrl (r1 x2 : Reg) (i2 : Half)
  /-- Rotate Left Fullword Logical (R247). -/
  | rll (r1 x2 : Reg) (i2 : Half)
  /-- Shift Right Fullword Logical (R246). -/
  | srl (r1 x2 : Reg) (i2 : Half)
  /-- Shift Left Fullword Logical (R243). -/
  | sll (r1 x2 : Reg) (i2 : Half)
  /-- Shift Right Fullword Arithmetic (R252). -/
  | sra (r1 x2 : Reg) (i2 : Half)
  /-- Shift Left Fullword Arithmetic (R250). -/
  | sla (r1 x2 : Reg) (i2 : Half)
  -- Branch (44_branch.md)
  /-- Branch and Link (R281). -/
  | balr (r1 r2 : Reg)
  /-- Branch on True Condition (R272). -/
  | btcr (m1 : BitVec 4) (r2 : Reg)
  /-- Branch on False Condition (R276). -/
  | bfcr (m1 : BitVec 4) (r2 : Reg)
  /-- Branch on True Backward Short (R270). -/
  | btbs (m1 n : BitVec 4)
  /-- Branch on True Forward Short (R271). -/
  | btfs (m1 n : BitVec 4)
  /-- Branch on False Backward Short (R274). -/
  | bfbs (m1 n : BitVec 4)
  /-- Branch on False Forward Short (R275). -/
  | bffs (m1 n : BitVec 4)
  /-- Branch and Link (R282). -/
  | bal (r1 x2 : Reg) (a2 : Half)
  /-- Branch on True Condition (R273). -/
  | btc (m1 : BitVec 4) (x2 : Reg) (a2 : Half)
  /-- Branch on False Condition (R277). -/
  | bfc (m1 : BitVec 4) (x2 : Reg) (a2 : Half)
  /-- Branch on Index High (R279). -/
  | bxh (r1 x2 : Reg) (i2 : Half)
  /-- Branch on Index Low or Equal (R280). -/
  | bxle (r1 x2 : Reg) (i2 : Half)
  -- Floating point (45_floating_point.md)
  /-- Floating-Point Load (R308). -/
  | ler (r1 r2 : Reg)
  /-- Floating-Point Compare (R315). -/
  | cer (r1 r2 : Reg)
  /-- Floating-Point Add (R311). -/
  | aer (r1 r2 : Reg)
  /-- Floating-Point Subtract (R313). -/
  | ser (r1 r2 : Reg)
  /-- Floating-Point Multiply (R317). -/
  | mer (r1 r2 : Reg)
  /-- Floating-Point Divide (R319). -/
  | der (r1 r2 : Reg)
  /-- Floating-Point Store (R310). -/
  | ste (r1 x2 : Reg) (a2 : Half)
  /-- Floating-Point Load (R309). -/
  | le (r1 x2 : Reg) (a2 : Half)
  /-- Floating-Point Compare (R316). -/
  | ce (r1 x2 : Reg) (a2 : Half)
  /-- Floating-Point Add (R312). -/
  | ae (r1 x2 : Reg) (a2 : Half)
  /-- Floating-Point Subtract (R314). -/
  | se (r1 x2 : Reg) (a2 : Half)
  /-- Floating-Point Multiply (R318). -/
  | me (r1 x2 : Reg) (a2 : Half)
  /-- Floating-Point Divide (R320). -/
  | de (r1 x2 : Reg) (a2 : Half)
  -- System control (46_system_control.md)
  /-- Exchange Operand Bank Address (R341). -/
  | epor (r1 r2 : Reg)
  /-- Exchange Program Address (R342). -/
  | eppr (r1 r2 : Reg)
  /-- Exchange Program Status (R343). -/
  | epsr (r1 r2 : Reg)
  /-- Load Program Status Word (R340). -/
  | lpsw (r1 x2 : Reg) (i2 : Half)
  /-- Supervisor Call (R345). -/
  | svc (r1 x2 : Reg) (i2 : Half)
  /-- Simulate Interrupt (R344). -/
  | sint (r1 x2 : Reg) (i2 : Half)
  -- Input, output and lists (47_io_and_list.md)
  /-- Add to Top of List (R391). -/
  | atl (r1 x2 : Reg) (a2 : Half)
  /-- Add to Bottom of List (R392). -/
  | abl (r1 x2 : Reg) (a2 : Half)
  /-- Remove from Top of List (R393). -/
  | rtl (r1 x2 : Reg) (a2 : Half)
  /-- Remove from Bottom of List (R394). -/
  | rbl (r1 x2 : Reg) (a2 : Half)
  /-- Write Block (R380). -/
  | wbr (r1 r2 : Reg)
  /-- Read Block (R378). -/
  | rbr (r1 r2 : Reg)
  /-- Write Halfword (R376). -/
  | whr (r1 r2 : Reg)
  /-- Read Halfword (R374). -/
  | rhr (r1 r2 : Reg)
  /-- Write Data (R371). -/
  | wdr (r1 r2 : Reg)
  /-- Read Data (R369). -/
  | rdr (r1 r2 : Reg)
  /-- Sense Status (R365). -/
  | ssr (r1 r2 : Reg)
  /-- Output Command (R367). -/
  | ocr (r1 r2 : Reg)
  /-- Acknowledge Interrupt (R363). -/
  | air (r1 r2 : Reg)
  /-- Autoload (R373). -/
  | al (r1 x2 : Reg) (a2 : Half)
  /-- Write Block (R381). -/
  | wb (r1 x2 : Reg) (a2 : Half)
  /-- Read Block (R379). -/
  | rb (r1 x2 : Reg) (a2 : Half)
  /-- Write Halfword (R377). -/
  | wh (r1 x2 : Reg) (a2 : Half)
  /-- Read Halfword (R375). -/
  | rh (r1 x2 : Reg) (a2 : Half)
  /-- Write Data (R372). -/
  | wd (r1 x2 : Reg) (a2 : Half)
  /-- Read Data (R370). -/
  | rd (r1 x2 : Reg) (a2 : Half)
  /-- Sense Status (R366). -/
  | ss (r1 x2 : Reg) (a2 : Half)
  /-- Output Command (R368). -/
  | oc (r1 x2 : Reg) (a2 : Half)
  /-- Acknowledge Interrupt (R364). -/
  | ai (r1 x2 : Reg) (a2 : Half)
  -- Listed only (48_listed_only.md)
  /-- Load and Change Number Base Halfword (R411). -/
  | lcnhr (r1 r2 : Reg)
  /-- Load Absolute Value Halfword (R413). -/
  | lavr (r1 r2 : Reg)
  /-- Load Complement Halfword (R415). -/
  | lchr (r1 r2 : Reg)
  /-- Compare Logical Fullword (R420). -/
  | cldpr (r1 r2 : Reg)
  /-- Load Fullword (R421). -/
  | ldpr (r1 r2 : Reg)
  /-- Compare Fullword (R422). -/
  | cdpr (r1 r2 : Reg)
  /-- Add Fullword (R423). -/
  | adpr (r1 r2 : Reg)
  /-- Subtract Fullword (R424). -/
  | sdpr (r1 r2 : Reg)
  /-- Multiply Fullword (R425). -/
  | mdpr (r1 r2 : Reg)
  /-- Divide Fullword (R426). -/
  | ddpr (r1 r2 : Reg)
  /-- Store Fullword (R427). -/
  | stdp (r1 x2 : Reg) (a2 : Half)
  /-- Load and Change Number Base Halfword (R412). -/
  | lcnh (r1 x2 : Reg) (a2 : Half)
  /-- Load Absolute Value Halfword (R414). -/
  | lav (r1 x2 : Reg) (a2 : Half)
  /-- Load Complement Halfword (R416). -/
  | lch (r1 x2 : Reg) (a2 : Half)
  /-- Compare Logical Fullword (R428). -/
  | cldp (r1 x2 : Reg) (a2 : Half)
  /-- Load Fullword (R429). -/
  | ldp (r1 x2 : Reg) (a2 : Half)
  /-- Compare Fullword (R430). -/
  | cdp (r1 x2 : Reg) (a2 : Half)
  /-- Add Fullword (R431). -/
  | adp (r1 x2 : Reg) (a2 : Half)
  /-- Subtract Fullword (R432). -/
  | sdp (r1 x2 : Reg) (a2 : Half)
  /-- Multiply Fullword (R433). -/
  | mdp (r1 x2 : Reg) (a2 : Half)
  /-- Divide Fullword (R434). -/
  | ddp (r1 x2 : Reg) (a2 : Half)
  /-- Reset Status Bits (R417). -/
  | resb (r1 x2 : Reg) (i2 : Half)
  /-- Set Status Bits (R418). -/
  | sesb (r1 x2 : Reg) (i2 : Half)
  /-- Shift Right Logical Doubleword (R435). -/
  | srql (r1 x2 : Reg) (i2 : Half)
  /-- Shift Left Logical Doubleword (R436). -/
  | slql (r1 x2 : Reg) (i2 : Half)
  /-- Shift Right Doubleword Arithmetic (R437). -/
  | srqa (r1 x2 : Reg) (i2 : Half)
  /-- Shift Left Doubleword Arithmetic (R438). -/
  | slqa (r1 x2 : Reg) (i2 : Half)
  -- Annex: the Central Computer (49_annex_central_computer.md)
  /-- Transfer Unconditionally (R457). -/
  | tru (r : BitVec 4) (y : BitVec 9)
  /-- Transfer on Accumulator Negative (R458). -/
  | trn (r : BitVec 4) (y : BitVec 9)
  /-- Transfer on Accumulator Zero (R459). -/
  | trz (r : BitVec 4) (y : BitVec 9)
  /-- Transfer on Overflow (R460). -/
  | tof (r : BitVec 4) (y : BitVec 9)
  /-- Transfer and Set Return Address in Index Register 12 (R461). -/
  | tsx (r : BitVec 4) (y : BitVec 9)
  /-- Compare Algebraic (R462). -/
  | cma (r : BitVec 4) (y : BitVec 9)
  /-- Compare Logical (R463). -/
  | cml (r : BitVec 4) (y : BitVec 9)
  /-- Transfer Equal (R464). -/
  | tre (r : BitVec 4) (y : BitVec 9)
  /-- Transfer High (R465). -/
  | trh (r : BitVec 4) (y : BitVec 9)
  /-- Transfer Low (R466). -/
  | trl (r : BitVec 4) (y : BitVec 9)
  /-- Lock (R467). -/
  | lck (n : BitVec 10)
  /-- Unlock (R468). -/
  | ulk
  /-- Add (R469). -/
  | add (r : BitVec 4) (y : BitVec 9)
  /-- Subtract (R470). -/
  | sub (r : BitVec 4) (y : BitVec 9)
  /-- Multiply (R471). -/
  | mly (r : BitVec 4) (y : BitVec 9)
  /-- Divide (R472). -/
  | div (r : BitVec 4) (y : BitVec 9)
  /-- Double Precision Add (R473). -/
  | dpa (r : BitVec 4) (y : BitVec 9)
  /-- Square Root (R474). -/
  | sqr
  /-- Clear and ADD (R475). -/
  | cla (r : BitVec 4) (y : BitVec 9)
  /-- Store Accumulator (R476). -/
  | str (r : BitVec 4) (y : BitVec 9)
  /-- Load Q Register (R477). -/
  | ldq (r : BitVec 4) (y : BitVec 9)
  /-- Store Q Register (R478). -/
  | stq (r : BitVec 4) (y : BitVec 9)
  /-- Increment Index (R479). -/
  | inx (r : BitVec 4) (y : BitVec 8)
  /-- Decrement Index (R480). -/
  | dcx (r : BitVec 4) (y : BitVec 8)
  /-- Transfer on Index (R481). -/
  | trx (r : BitVec 4) (x : Bool) (y : BitVec 8)
  /-- Skip on Index High (R482). -/
  | sxh (r : BitVec 4) (x : Bool) (y : BitVec 8)
  /-- Logical Add (R483). -/
  | lga (r : BitVec 4) (y : BitVec 9)
  /-- Logical Multiply (R484). -/
  | lgm (r : BitVec 4) (y : BitVec 9)
  /-- Logical Complement (R485). -/
  | lgc (r : BitVec 4) (y : BitVec 9)
  /-- Convert Gray Code (R486). -/
  | cgc (r : BitVec 4) (y : BitVec 9)
  /-- Left Shift Accumulator (R488). -/
  | lsa (r : BitVec 4) (k : BitVec 6)
  /-- Left Shift Both (R489). -/
  | lsb (r : BitVec 4) (k : BitVec 6)
  /-- Right Shift Accumulator (R490). -/
  | rsa (r : BitVec 4) (k : BitVec 6)
  /-- Right Shift Both (R491). -/
  | rsb (r : BitVec 4) (k : BitVec 6)
  /-- Right Rotate Accumulator (R492). -/
  | rra (r : BitVec 4) (k : BitVec 6)
  /-- Right Rotate Q Register (R493). -/
  | rrq (r : BitVec 4) (k : BitVec 6)
  /-- Left Rotate Both (R494). -/
  | lrb (r : BitVec 4) (k : BitVec 6)
  /-- Right Rotate Both, Parity Generation (R495). -/
  | rrb (r : BitVec 4) (k : BitVec 6)
  /-- Set Accumulator Positive (R496). -/
  | sap
  /-- Change Sign of Accumulator (R497). -/
  | csa
  /-- Exchange Accumulator and Q Register (R498). -/
  | xca
  /-- Two's Complement Accumulator (R499). -/
  | cpa
  /-- Load Page Register (R500). -/
  | lpr
  /-- Read Page Register (R501). -/
  | rpr
  /-- Load Block Indicators (R502). -/
  | lbi (ch : BitVec 3)
  /-- Read Block Indicators (R503). -/
  | rbi (ch : BitVec 3)
  /-- Set Indicators (R505). -/
  | sei (n : BitVec 10)
  /-- Reset Indicators (R506). -/
  | rei (n : BitVec 10)
  /-- Skip on Indicators (R507). -/
  | ski (n : BitVec 10)
  /-- Place Indicators in Accumulator (R508). -/
  | pia
  /-- Place Accumulator in Indicators (R509). -/
  | pai
  /-- Skip on switches (R510). -/
  | skw (n : BitVec 10)
  /-- External Function (R511). -/
  | exf (ch : BitVec 3) (y1 : Bool) (y : BitVec 9)
  /-- Keyboard Activate (R513). -/
  | twa
  /-- Keyboard Off (R514). -/
  | twf
  /-- Output to Printer (R515). -/
  | otw
  /-- Input from Console (R516). -/
  | ipc
  /-- Console Tape Advance (R517). -/
  | cta
  /-- Console Tape Stop (R518). -/
  | cts
  /-- Console Tape Rewind (R519). -/
  | ctr
  /-- Punch Motor On (R520). -/
  | pmo
  /-- Punch Motor Off (R521). -/
  | pmf
  /-- Output 6 Bits to Tape Punch (R522). -/
  | opa
  /-- Output 7 Bits to Tape Punch (R523). -/
  | opb
  deriving DecidableEq, Repr

end Sys2Proof
end

