-- ==== Sys2Proof/Decode.lean ====
section
/-! DEFINITION. The decoder, total on any bytes, and the encoder. HMP-1116: 30_encoding.md (R100 to R113), one byte
list for the words in memory order. Annex: 49_annex_central_computer.md R453, R456. -/

namespace Sys2Proof

/-! HMP-1116: formats and operation codes -/

/-- The formats of 30_encoding.md R101 to R104 with the fields an operation gives them: two registers, a register and
a literal, a mask and a displacement, a mask and a register; and with 16 more bits two registers or a mask and a
register. -/
inductive Form where
  /-- RR: R1, R2. -/
  | rr (f : Reg → Reg → Instr)
  /-- SF: R1, N. -/
  | sf (f : Reg → BitVec 4 → Instr)
  /-- SF: M1, D. -/
  | ms (f : BitVec 4 → BitVec 4 → Instr)
  /-- RR: M1, R2. -/
  | mr (f : BitVec 4 → Reg → Instr)
  /-- RX, RI: R1, X2, A2 or I2. -/
  | rx (f : Reg → Reg → Half → Instr)
  /-- RX: M1, X2, A2. -/
  | mx (f : BitVec 4 → Reg → Half → Instr)

/-- Load and store (40_load_store.md). -/
def loadStoreCodes : List (Byte × Form) := [
  (0x08, .rr .lhr), (0x24, .sf .lis), (0x25, .sf .lcs), (0x40, .rx .sth), (0x48, .rx .lh),
  (0x74, .rx .lh0), (0x75, .rx .lh1), (0x76, .rx .lh2), (0x77, .rx .lh3), (0xC8, .rx .lhi),
  (0xD0, .rx .stm), (0xD1, .rx .lm), (0xF8, .rx .sth0), (0xF9, .rx .sth1), (0xFA, .rx .sth2),
  (0xFB, .rx .sth3)]

/-- Fixed-point arithmetic (41_fixed_point_arithmetic.md). -/
def arithmeticCodes : List (Byte × Form) := [
  (0x0A, .rr .ahr), (0x0B, .rr .shr), (0x0C, .rr .mhr), (0x0D, .rr .dhr), (0x0E, .rr .achr),
  (0x0F, .rr .schr), (0x26, .sf .ais), (0x27, .sf .sis), (0x4A, .rx .ah), (0x4B, .rx .sh), (0x4C, .rx .mh),
  (0x4D, .rx .dh), (0x4E, .rx .ach), (0x4F, .rx .sch), (0x61, .rx .ahm), (0x9C, .rr .mhur),
  (0xCA, .rx .ahi), (0xCB, .rx .shi), (0xDC, .rx .mhu)]

/-- Logical, compare and byte handling (42_logical_compare_byte.md). -/
def logicalCodes : List (Byte × Form) := [
  (0x04, .rr .nhr), (0x05, .rr .clhr), (0x06, .rr .ohr), (0x07, .rr .xhr), (0x09, .rr .chr),
  (0x44, .rx .nh), (0x45, .rx .clh), (0x46, .rx .oh), (0x47, .rx .xh), (0x49, .rx .ch), (0x92, .rr .stbr),
  (0x93, .rr .lbr), (0x94, .rr .exbr), (0xC3, .rx .thi), (0xC4, .rx .nhi), (0xC5, .rx .clhi),
  (0xC6, .rx .ohi), (0xC7, .rx .xhi), (0xC9, .rx .chi), (0xD2, .rx .stb), (0xD3, .rx .lb), (0xD4, .rx .clb)]

/-- Shift and rotate (43_shift_rotate.md). -/
def shiftCodes : List (Byte × Form) := [
  (0x90, .sf .srls), (0x91, .sf .slls), (0xCC, .rx .srhl), (0xCD, .rx .slhl), (0xCE, .rx .srha),
  (0xCF, .rx .slha), (0xEA, .rx .rrl), (0xEB, .rx .rll), (0xEC, .rx .srl), (0xED, .rx .sll),
  (0xEE, .rx .sra), (0xEF, .rx .sla)]

/-- Branch (44_branch.md). -/
def branchCodes : List (Byte × Form) := [
  (0x01, .rr .balr), (0x02, .mr .btcr), (0x03, .mr .bfcr), (0x20, .ms .btbs), (0x21, .ms .btfs),
  (0x22, .ms .bfbs), (0x23, .ms .bffs), (0x41, .rx .bal), (0x42, .mx .btc), (0x43, .mx .bfc),
  (0xC0, .rx .bxh), (0xC1, .rx .bxle)]

/-- Floating point (45_floating_point.md). -/
def floatingPointCodes : List (Byte × Form) := [
  (0x28, .rr .ler), (0x29, .rr .cer), (0x2A, .rr .aer), (0x2B, .rr .ser), (0x2C, .rr .mer),
  (0x2D, .rr .der), (0x60, .rx .ste), (0x68, .rx .le), (0x69, .rx .ce), (0x6A, .rx .ae), (0x6B, .rx .se),
  (0x6C, .rx .me), (0x6D, .rx .de)]

/-- System control (46_system_control.md). -/
def systemControlCodes : List (Byte × Form) := [
  (0x2E, .rr .epor), (0x2F, .rr .eppr), (0x95, .rr .epsr), (0xC2, .rx .lpsw), (0xE1, .rx .svc),
  (0xE2, .rx .sint)]

/-- Input, output and lists (47_io_and_list.md). -/
def inputOutputCodes : List (Byte × Form) := [
  (0x64, .rx .atl), (0x65, .rx .abl), (0x66, .rx .rtl), (0x67, .rx .rbl), (0x96, .rr .wbr),
  (0x97, .rr .rbr), (0x98, .rr .whr), (0x99, .rr .rhr), (0x9A, .rr .wdr), (0x9B, .rr .rdr),
  (0x9D, .rr .ssr), (0x9E, .rr .ocr), (0x9F, .rr .air), (0xD5, .rx .al), (0xD6, .rx .wb), (0xD7, .rx .rb),
  (0xD8, .rx .wh), (0xD9, .rx .rh), (0xDA, .rx .wd), (0xDB, .rx .rd), (0xDD, .rx .ss), (0xDE, .rx .oc),
  (0xDF, .rx .ai)]

/-- Operations the source only lists (48_listed_only.md). -/
def listedOnlyCodes : List (Byte × Form) := [
  (0x10, .rr .lcnhr), (0x11, .rr .lavr), (0x12, .rr .lchr), (0x15, .rr .cldpr), (0x18, .rr .ldpr),
  (0x19, .rr .cdpr), (0x1A, .rr .adpr), (0x1B, .rr .sdpr), (0x1C, .rr .mdpr), (0x1D, .rr .ddpr),
  (0x50, .rx .stdp), (0x51, .rx .lcnh), (0x52, .rx .lav), (0x53, .rx .lch), (0x55, .rx .cldp),
  (0x58, .rx .ldp), (0x59, .rx .cdp), (0x5A, .rx .adp), (0x5B, .rx .sdp), (0x5C, .rx .mdp),
  (0x5D, .rx .ddp), (0xE3, .rx .resb), (0xE4, .rx .sesb), (0xE6, .rx .srql), (0xE7, .rx .slql),
  (0xE8, .rx .srqa), (0xE9, .rx .slqa)]

/-- The 150 operation codes (30_encoding.md R112). -/
def operationCodes : List (Byte × Form) :=
  loadStoreCodes ++ arithmeticCodes ++ logicalCodes ++ shiftCodes ++ branchCodes ++ floatingPointCodes ++
    systemControlCodes ++ inputOutputCodes ++ listedOnlyCodes

/-- The format of an operation code in a list of rows. -/
def findForm (op : Byte) : List (Byte × Form) → Option Form
  | [] => none
  | row :: rows => if row.1 = op then some row.2 else findForm op rows

/-- The format of an operation code, none where it is unassigned; X'3A' is AER where the platform says so
(30_encoding.md R112, R113; log 40). -/
def formOf (alias3A : Bool) (op : Byte) : Option Form :=
  if alias3A && op == 0x3A then some (.rr .aer) else findForm op operationCodes

/-- The format has 32 bits (30_encoding.md R105). -/
def Form.long : Form → Bool
  | .rr _ | .sf _ | .ms _ | .mr _ => false
  | .rx _ | .mx _ => true

/-- A register number as a field. -/
def field (r : Reg) : BitVec 4 := BitVec.ofNat 4 r.val

/-- A field as a register number. -/
def regOf (b : BitVec 4) : Reg := Fin.ofNat 16 b.toNat

/-- The instruction of a format with its two fields and, where the format is long, its second halfword. -/
def Form.instr (f : Form) (a b : BitVec 4) (h : Half) : Instr :=
  match f with
  | .rr f => f (regOf a) (regOf b)
  | .sf f => f (regOf a) b
  | .ms f => f a b
  | .mr f => f a (regOf b)
  | .rx f => f (regOf a) (regOf b) h
  | .mx f => f a (regOf b) h

/-- Why bytes are no instruction. -/
inductive DecodeError where
  /-- The operation code is none of the assigned ones. -/
  | unassigned (op : Byte)
  /-- Too few bytes for the format. -/
  | truncated
  /-- Annex: an unassigned sub-operation (49 R524). -/
  | illegalOperation
  deriving DecidableEq, Repr

/-- The instruction at the head of a list of bytes. Only bits 0:7 identify it (30_encoding.md R100). -/
def decode (alias3A : Bool) : List Byte → Except DecodeError Instr
  | op :: b :: rest =>
    match formOf alias3A op with
    | none => .error (.unassigned op)
    | some f =>
      let x := b.extractLsb' 4 4
      let y := b.extractLsb' 0 4
      if f.long then
        match rest with
        | high :: low :: _ => .ok (f.instr x y (high ++ low))
        | _ => .error .truncated
      else .ok (f.instr x y 0)
  | _ => .error .truncated

/-! Annex: formats and operation codes -/

/-- The Central Computer instruction in an 18-bit word; none for an unassigned sub-operation (49 R453, R456; the lost
layouts and the places of X, C and Y1: PRESUMED, log 42; which sub-operations are illegal: log 52). Bits are counted from the left in the annex: `r` is bits 5 to 8, `y` bits 9 to 17, `x`
bits 9 to 11, `k` bits 12 to 17; the channel of EXF, LBI and RBI is bits 5 to 7 and the Y1 of EXF bit 8. -/
def decodeCentral (w : CWord) : Option Instr :=
  let r := w.extractLsb' 9 4
  let y := w.extractLsb' 0 9
  let x8 := w.getLsbD 8
  let y8 := w.extractLsb' 0 8
  let x := (w.extractLsb' 6 3).toNat
  let k := w.extractLsb' 0 6
  let n : BitVec 10 := r ++ k
  let bit8 := w.getLsbD 9
  let ch := w.extractLsb' 10 3
  match (w.extractLsb' 13 5).toNat with
  | 0o00 => some (.tru r y)
  | 0o01 => some (.trn r y)
  | 0o02 => some (.trz r y)
  | 0o03 => some (.tof r y)
  | 0o04 => some (.dpa r y)
  | 0o05 => some (.tre r y)
  | 0o06 => some (.trh r y)
  | 0o07 => some (.trl r y)
  | 0o10 => some (if x8 then .inx r y8 else .dcx r y8)
  | 0o11 => some (.sxh r x8 y8)
  | 0o12 => some (.tsx r y)
  | 0o13 => some (.trx r x8 y8)
  | 0o14 =>
    match x with
    | 0 => some .ulk
    | 1 => some (.ski n)
    | 2 => some (.sei n)
    | 3 => some (.rei n)
    | 4 => some (.lck n)
    | 5 => some (.skw n)
    | 6 => some .pia
    | _ => some .pai
  | 0o15 =>
    match x with
    | 0 => none
    | 1 => some .cta
    | 2 => some .cts
    | 3 => some .ctr
    | 4 => some .pmo
    | 5 => some .pmf
    | 6 => some .twa
    | _ => some .twf
  | 0o16 =>
    match x with
    | 0 => some .ipc
    | 1 => some .opa
    | 2 => some .opb
    | 3 => some .otw
    | _ => none
  | 0o17 => some (.exf ch bit8 y)
  | 0o20 => some (.cla r y)
  | 0o21 => some (.ldq r y)
  | 0o22 => some (.add r y)
  | 0o23 => some (.sub r y)
  | 0o24 => some (.mly r y)
  | 0o25 => some (.div r y)
  | 0o26 => some (.str r y)
  | 0o27 => some (.stq r y)
  | 0o30 => some (.cma r y)
  | 0o31 => some (.cml r y)
  | 0o32 => some (.lga r y)
  | 0o33 => some (.lgm r y)
  | 0o34 => some (.lgc r y)
  | 0o35 => some (.cgc r y)
  | 0o36 =>
    match x with
    | 0 => some (.rsa r k)
    | 1 => some (.lsa r k)
    | 2 => some (.lrb r k)
    | 3 => some (.lsb r k)
    | 4 => some (.rsb r k)
    | 5 => some (.rra r k)
    | 6 => some (.rrq r k)
    | _ => some (.rrb r k)
  | _ =>
    match x with
    | 0 => some .sap
    | 1 => some .sqr
    | 2 => some (if bit8 then .lbi ch else .lpr)
    | 3 => some .xca
    | 4 => some .csa
    | 5 => some .cpa
    | 6 => some (if bit8 then .rbi ch else .rpr)
    | _ => none

/-! Encoder -/

/-- An instruction as it is stored: bytes of the HMP-1116, or a word of the Central Computer. -/
inductive Code where
  /-- Bytes in memory order. -/
  | bytes (l : List Byte)
  /-- An 18-bit word. -/
  | word (w : CWord)
  deriving DecidableEq, Repr

/-- The two bytes of a 16-bit instruction. -/
def short (op : Byte) (a b : BitVec 4) : Code := .bytes [op, a ++ b]

/-- The four bytes of a 32-bit instruction. -/
def long (op : Byte) (a b : BitVec 4) (h : Half) : Code :=
  .bytes [op, a ++ b, h.extractLsb' 8 8, h.extractLsb' 0 8]

/-- OP, R, Y (49 R453(a)). -/
def central9 (op : BitVec 5) (r : BitVec 4) (y : BitVec 9) : CWord := op ++ r ++ y

/-- OP, R, X, Y (49 R453(b)). -/
def central8 (op : BitVec 5) (r : BitVec 4) (x : Bool) (y : BitVec 8) : CWord := op ++ r ++ BitVec.ofBool x ++ y

/-- OP, N, X, N (49 R453(c)). -/
def central6 (op : BitVec 5) (r : BitVec 4) (x : BitVec 3) (k : BitVec 6) : CWord := op ++ r ++ x ++ k

/-- The encoding of an instruction. -/
def encode (i : Instr) : Code :=
  match i with
  | .balr r1 r2 => short 0x01 (field r1) (field r2)
  | .btcr m1 r2 => short 0x02 m1 (field r2)
  | .bfcr m1 r2 => short 0x03 m1 (field r2)
  | .nhr r1 r2 => short 0x04 (field r1) (field r2)
  | .clhr r1 r2 => short 0x05 (field r1) (field r2)
  | .ohr r1 r2 => short 0x06 (field r1) (field r2)
  | .xhr r1 r2 => short 0x07 (field r1) (field r2)
  | .lhr r1 r2 => short 0x08 (field r1) (field r2)
  | .chr r1 r2 => short 0x09 (field r1) (field r2)
  | .ahr r1 r2 => short 0x0A (field r1) (field r2)
  | .shr r1 r2 => short 0x0B (field r1) (field r2)
  | .mhr r1 r2 => short 0x0C (field r1) (field r2)
  | .dhr r1 r2 => short 0x0D (field r1) (field r2)
  | .achr r1 r2 => short 0x0E (field r1) (field r2)
  | .schr r1 r2 => short 0x0F (field r1) (field r2)
  | .lcnhr r1 r2 => short 0x10 (field r1) (field r2)
  | .lavr r1 r2 => short 0x11 (field r1) (field r2)
  | .lchr r1 r2 => short 0x12 (field r1) (field r2)
  | .cldpr r1 r2 => short 0x15 (field r1) (field r2)
  | .ldpr r1 r2 => short 0x18 (field r1) (field r2)
  | .cdpr r1 r2 => short 0x19 (field r1) (field r2)
  | .adpr r1 r2 => short 0x1A (field r1) (field r2)
  | .sdpr r1 r2 => short 0x1B (field r1) (field r2)
  | .mdpr r1 r2 => short 0x1C (field r1) (field r2)
  | .ddpr r1 r2 => short 0x1D (field r1) (field r2)
  | .btbs m1 n => short 0x20 m1 n
  | .btfs m1 n => short 0x21 m1 n
  | .bfbs m1 n => short 0x22 m1 n
  | .bffs m1 n => short 0x23 m1 n
  | .lis r1 n => short 0x24 (field r1) n
  | .lcs r1 n => short 0x25 (field r1) n
  | .ais r1 n => short 0x26 (field r1) n
  | .sis r1 n => short 0x27 (field r1) n
  | .ler r1 r2 => short 0x28 (field r1) (field r2)
  | .cer r1 r2 => short 0x29 (field r1) (field r2)
  | .aer r1 r2 => short 0x2A (field r1) (field r2)
  | .ser r1 r2 => short 0x2B (field r1) (field r2)
  | .mer r1 r2 => short 0x2C (field r1) (field r2)
  | .der r1 r2 => short 0x2D (field r1) (field r2)
  | .epor r1 r2 => short 0x2E (field r1) (field r2)
  | .eppr r1 r2 => short 0x2F (field r1) (field r2)
  | .sth r1 x2 a2 => long 0x40 (field r1) (field x2) a2
  | .bal r1 x2 a2 => long 0x41 (field r1) (field x2) a2
  | .btc m1 x2 a2 => long 0x42 m1 (field x2) a2
  | .bfc m1 x2 a2 => long 0x43 m1 (field x2) a2
  | .nh r1 x2 a2 => long 0x44 (field r1) (field x2) a2
  | .clh r1 x2 a2 => long 0x45 (field r1) (field x2) a2
  | .oh r1 x2 a2 => long 0x46 (field r1) (field x2) a2
  | .xh r1 x2 a2 => long 0x47 (field r1) (field x2) a2
  | .lh r1 x2 a2 => long 0x48 (field r1) (field x2) a2
  | .ch r1 x2 a2 => long 0x49 (field r1) (field x2) a2
  | .ah r1 x2 a2 => long 0x4A (field r1) (field x2) a2
  | .sh r1 x2 a2 => long 0x4B (field r1) (field x2) a2
  | .mh r1 x2 a2 => long 0x4C (field r1) (field x2) a2
  | .dh r1 x2 a2 => long 0x4D (field r1) (field x2) a2
  | .ach r1 x2 a2 => long 0x4E (field r1) (field x2) a2
  | .sch r1 x2 a2 => long 0x4F (field r1) (field x2) a2
  | .stdp r1 x2 a2 => long 0x50 (field r1) (field x2) a2
  | .lcnh r1 x2 a2 => long 0x51 (field r1) (field x2) a2
  | .lav r1 x2 a2 => long 0x52 (field r1) (field x2) a2
  | .lch r1 x2 a2 => long 0x53 (field r1) (field x2) a2
  | .cldp r1 x2 a2 => long 0x55 (field r1) (field x2) a2
  | .ldp r1 x2 a2 => long 0x58 (field r1) (field x2) a2
  | .cdp r1 x2 a2 => long 0x59 (field r1) (field x2) a2
  | .adp r1 x2 a2 => long 0x5A (field r1) (field x2) a2
  | .sdp r1 x2 a2 => long 0x5B (field r1) (field x2) a2
  | .mdp r1 x2 a2 => long 0x5C (field r1) (field x2) a2
  | .ddp r1 x2 a2 => long 0x5D (field r1) (field x2) a2
  | .ste r1 x2 a2 => long 0x60 (field r1) (field x2) a2
  | .ahm r1 x2 a2 => long 0x61 (field r1) (field x2) a2
  | .atl r1 x2 a2 => long 0x64 (field r1) (field x2) a2
  | .abl r1 x2 a2 => long 0x65 (field r1) (field x2) a2
  | .rtl r1 x2 a2 => long 0x66 (field r1) (field x2) a2
  | .rbl r1 x2 a2 => long 0x67 (field r1) (field x2) a2
  | .le r1 x2 a2 => long 0x68 (field r1) (field x2) a2
  | .ce r1 x2 a2 => long 0x69 (field r1) (field x2) a2
  | .ae r1 x2 a2 => long 0x6A (field r1) (field x2) a2
  | .se r1 x2 a2 => long 0x6B (field r1) (field x2) a2
  | .me r1 x2 a2 => long 0x6C (field r1) (field x2) a2
  | .de r1 x2 a2 => long 0x6D (field r1) (field x2) a2
  | .lh0 r1 x2 a2 => long 0x74 (field r1) (field x2) a2
  | .lh1 r1 x2 a2 => long 0x75 (field r1) (field x2) a2
  | .lh2 r1 x2 a2 => long 0x76 (field r1) (field x2) a2
  | .lh3 r1 x2 a2 => long 0x77 (field r1) (field x2) a2
  | .srls r1 n => short 0x90 (field r1) n
  | .slls r1 n => short 0x91 (field r1) n
  | .stbr r1 r2 => short 0x92 (field r1) (field r2)
  | .lbr r1 r2 => short 0x93 (field r1) (field r2)
  | .exbr r1 r2 => short 0x94 (field r1) (field r2)
  | .epsr r1 r2 => short 0x95 (field r1) (field r2)
  | .wbr r1 r2 => short 0x96 (field r1) (field r2)
  | .rbr r1 r2 => short 0x97 (field r1) (field r2)
  | .whr r1 r2 => short 0x98 (field r1) (field r2)
  | .rhr r1 r2 => short 0x99 (field r1) (field r2)
  | .wdr r1 r2 => short 0x9A (field r1) (field r2)
  | .rdr r1 r2 => short 0x9B (field r1) (field r2)
  | .mhur r1 r2 => short 0x9C (field r1) (field r2)
  | .ssr r1 r2 => short 0x9D (field r1) (field r2)
  | .ocr r1 r2 => short 0x9E (field r1) (field r2)
  | .air r1 r2 => short 0x9F (field r1) (field r2)
  | .bxh r1 x2 i2 => long 0xC0 (field r1) (field x2) i2
  | .bxle r1 x2 i2 => long 0xC1 (field r1) (field x2) i2
  | .lpsw r1 x2 i2 => long 0xC2 (field r1) (field x2) i2
  | .thi r1 x2 i2 => long 0xC3 (field r1) (field x2) i2
  | .nhi r1 x2 i2 => long 0xC4 (field r1) (field x2) i2
  | .clhi r1 x2 i2 => long 0xC5 (field r1) (field x2) i2
  | .ohi r1 x2 i2 => long 0xC6 (field r1) (field x2) i2
  | .xhi r1 x2 i2 => long 0xC7 (field r1) (field x2) i2
  | .lhi r1 x2 i2 => long 0xC8 (field r1) (field x2) i2
  | .chi r1 x2 i2 => long 0xC9 (field r1) (field x2) i2
  | .ahi r1 x2 i2 => long 0xCA (field r1) (field x2) i2
  | .shi r1 x2 i2 => long 0xCB (field r1) (field x2) i2
  | .srhl r1 x2 i2 => long 0xCC (field r1) (field x2) i2
  | .slhl r1 x2 i2 => long 0xCD (field r1) (field x2) i2
  | .srha r1 x2 i2 => long 0xCE (field r1) (field x2) i2
  | .slha r1 x2 i2 => long 0xCF (field r1) (field x2) i2
  | .stm r1 x2 a2 => long 0xD0 (field r1) (field x2) a2
  | .lm r1 x2 a2 => long 0xD1 (field r1) (field x2) a2
  | .stb r1 x2 a2 => long 0xD2 (field r1) (field x2) a2
  | .lb r1 x2 a2 => long 0xD3 (field r1) (field x2) a2
  | .clb r1 x2 a2 => long 0xD4 (field r1) (field x2) a2
  | .al r1 x2 a2 => long 0xD5 (field r1) (field x2) a2
  | .wb r1 x2 a2 => long 0xD6 (field r1) (field x2) a2
  | .rb r1 x2 a2 => long 0xD7 (field r1) (field x2) a2
  | .wh r1 x2 a2 => long 0xD8 (field r1) (field x2) a2
  | .rh r1 x2 a2 => long 0xD9 (field r1) (field x2) a2
  | .wd r1 x2 a2 => long 0xDA (field r1) (field x2) a2
  | .rd r1 x2 a2 => long 0xDB (field r1) (field x2) a2
  | .mhu r1 x2 a2 => long 0xDC (field r1) (field x2) a2
  | .ss r1 x2 a2 => long 0xDD (field r1) (field x2) a2
  | .oc r1 x2 a2 => long 0xDE (field r1) (field x2) a2
  | .ai r1 x2 a2 => long 0xDF (field r1) (field x2) a2
  | .svc r1 x2 i2 => long 0xE1 (field r1) (field x2) i2
  | .sint r1 x2 i2 => long 0xE2 (field r1) (field x2) i2
  | .resb r1 x2 i2 => long 0xE3 (field r1) (field x2) i2
  | .sesb r1 x2 i2 => long 0xE4 (field r1) (field x2) i2
  | .srql r1 x2 i2 => long 0xE6 (field r1) (field x2) i2
  | .slql r1 x2 i2 => long 0xE7 (field r1) (field x2) i2
  | .srqa r1 x2 i2 => long 0xE8 (field r1) (field x2) i2
  | .slqa r1 x2 i2 => long 0xE9 (field r1) (field x2) i2
  | .rrl r1 x2 i2 => long 0xEA (field r1) (field x2) i2
  | .rll r1 x2 i2 => long 0xEB (field r1) (field x2) i2
  | .srl r1 x2 i2 => long 0xEC (field r1) (field x2) i2
  | .sll r1 x2 i2 => long 0xED (field r1) (field x2) i2
  | .sra r1 x2 i2 => long 0xEE (field r1) (field x2) i2
  | .sla r1 x2 i2 => long 0xEF (field r1) (field x2) i2
  | .sth0 r1 x2 a2 => long 0xF8 (field r1) (field x2) a2
  | .sth1 r1 x2 a2 => long 0xF9 (field r1) (field x2) a2
  | .sth2 r1 x2 a2 => long 0xFA (field r1) (field x2) a2
  | .sth3 r1 x2 a2 => long 0xFB (field r1) (field x2) a2
  | .tru r y => .word (central9 0o00 r y)
  | .trn r y => .word (central9 0o01 r y)
  | .trz r y => .word (central9 0o02 r y)
  | .tof r y => .word (central9 0o03 r y)
  | .tsx r y => .word (central9 0o12 r y)
  | .cma r y => .word (central9 0o30 r y)
  | .cml r y => .word (central9 0o31 r y)
  | .tre r y => .word (central9 0o05 r y)
  | .trh r y => .word (central9 0o06 r y)
  | .trl r y => .word (central9 0o07 r y)
  | .lck n => .word (central6 0o14 (n.extractLsb' 6 4) 4 (n.extractLsb' 0 6))
  | .ulk => .word (central6 0o14 0 0 0)
  | .add r y => .word (central9 0o22 r y)
  | .sub r y => .word (central9 0o23 r y)
  | .mly r y => .word (central9 0o24 r y)
  | .div r y => .word (central9 0o25 r y)
  | .dpa r y => .word (central9 0o04 r y)
  | .sqr => .word (central6 0o37 0 1 0)
  | .cla r y => .word (central9 0o20 r y)
  | .str r y => .word (central9 0o26 r y)
  | .ldq r y => .word (central9 0o21 r y)
  | .stq r y => .word (central9 0o27 r y)
  | .inx r y => .word (central8 0o10 r true y)
  | .dcx r y => .word (central8 0o10 r false y)
  | .trx r x y => .word (central8 0o13 r x y)
  | .sxh r x y => .word (central8 0o11 r x y)
  | .lga r y => .word (central9 0o32 r y)
  | .lgm r y => .word (central9 0o33 r y)
  | .lgc r y => .word (central9 0o34 r y)
  | .cgc r y => .word (central9 0o35 r y)
  | .lsa r k => .word (central6 0o36 r 1 k)
  | .lsb r k => .word (central6 0o36 r 3 k)
  | .rsa r k => .word (central6 0o36 r 0 k)
  | .rsb r k => .word (central6 0o36 r 4 k)
  | .rra r k => .word (central6 0o36 r 5 k)
  | .rrq r k => .word (central6 0o36 r 6 k)
  | .lrb r k => .word (central6 0o36 r 2 k)
  | .rrb r k => .word (central6 0o36 r 7 k)
  | .sap => .word (central6 0o37 0 0 0)
  | .csa => .word (central6 0o37 0 4 0)
  | .xca => .word (central6 0o37 0 3 0)
  | .cpa => .word (central6 0o37 0 5 0)
  | .lpr => .word (central6 0o37 0 2 0)
  | .rpr => .word (central6 0o37 0 6 0)
  | .lbi ch => .word (central6 0o37 (ch ++ 1#1) 2 0)
  | .rbi ch => .word (central6 0o37 (ch ++ 1#1) 6 0)
  | .sei n => .word (central6 0o14 (n.extractLsb' 6 4) 2 (n.extractLsb' 0 6))
  | .rei n => .word (central6 0o14 (n.extractLsb' 6 4) 3 (n.extractLsb' 0 6))
  | .ski n => .word (central6 0o14 (n.extractLsb' 6 4) 1 (n.extractLsb' 0 6))
  | .pia => .word (central6 0o14 0 6 0)
  | .pai => .word (central6 0o14 0 7 0)
  | .skw n => .word (central6 0o14 (n.extractLsb' 6 4) 5 (n.extractLsb' 0 6))
  | .exf ch y1 y => .word (central9 0o17 (ch ++ BitVec.ofBool y1) y)
  | .twa => .word (central6 0o15 0 6 0)
  | .twf => .word (central6 0o15 0 7 0)
  | .otw => .word (central6 0o16 0 3 0)
  | .ipc => .word (central6 0o16 0 0 0)
  | .cta => .word (central6 0o15 0 1 0)
  | .cts => .word (central6 0o15 0 2 0)
  | .ctr => .word (central6 0o15 0 3 0)
  | .pmo => .word (central6 0o15 0 4 0)
  | .pmf => .word (central6 0o15 0 5 0)
  | .opa => .word (central6 0o16 0 1 0)
  | .opb => .word (central6 0o16 0 2 0)

/-- The instruction a stored code holds. -/
def decodeCode (alias3A : Bool) : Code → Except DecodeError Instr
  | .bytes l => decode alias3A l
  | .word w =>
    match decodeCentral w with
    | some i => .ok i
    | none => .error .illegalOperation

/-! Words as the opcode table numbers them -/

/-- The bytes of a number, the most significant first. -/
def bytesOf (w : Nat) : Nat → List Byte
  | 0 => []
  | n + 1 => BitVec.ofNat 8 (w / 256 ^ n) :: bytesOf w n

/-- The instruction in a word of spec/opcode_table.json. The table writes an HMP-1116 instruction of 16 or 32 bits
as one number whose most significant byte is the operation code, and a Central Computer instruction as 18 bits (three
bytes). -/
def decodeTableWord (nbits w : Nat) : Option Instr :=
  match nbits with
  | 16 => (decode false (bytesOf w 2 ++ [0, 0])).toOption
  | 32 => (decode false (bytesOf w 4)).toOption
  | 18 | 24 => decodeCentral (BitVec.ofNat 18 w)
  | _ => none

end Sys2Proof
end

