-- ==== Sys2Proof/Machine/Fetch.lean ====
section
/-! DEFINITION. Fetching the bytes of an instruction, and placing a word where the next step fetches. -/

namespace Sys2Proof.Machine

/-- The bytes at the location counter: the first halfword in the program bank (30_encoding.md R104), and the second
only when the first asks for it, its address wrapping in the bank (20_memory.md R79; log 25). -/
def State.fetchBytes (s : State) : Except Fault (List Byte) :=
  if s.loc.getLsbD 0 then .error .oddLocation
  else
    match s.readHalf s.pbank s.loc with
    | .error f => .error f
    | .ok h =>
      let first := [h.extractLsb' 8 8, h.extractLsb' 0 8]
      match formOf s.platform.aerAlias3A (h.extractLsb' 8 8) with
      | none => .ok first
      | some f =>
        if f.long then
          (s.readHalf s.pbank (s.loc + 2)).map fun h2 => first ++ [h2.extractLsb' 8 8, h2.extractLsb' 0 8]
        else .ok first

/-- The instruction at the location counter. -/
def State.fetch (s : State) : Except Fault (Except DecodeError Instr) :=
  s.fetchBytes.map (decode s.platform.aerAlias3A)

/-- The Central Computer instruction at its program counter. The page registers take no part in the fetch: paging is not
in the source (49 R525(b)); DESIGN CHOICE, log 49, unsafe. -/
def State.centralFetch (s : State) : Option Instr := decodeCentral (s.central.word s.central.pc)

/-- A device interrupt is due: some device requests one and the Program Status enables them (60_exceptions.md R547,
R560; log 34). -/
def State.deviceInterruptDue (s : State) : Bool :=
  s.platform.interruptStatuses.contains s.ps && !s.pending.isEmpty

/-- The interrupt look: the first device that requests one is served (R547, R560). -/
def serveDevice (s : State) : Result := deviceService .deviceInterruptNotSpecified (s.pending.headD 0) s

/-- The state with the bytes of a word of 16 or 32 bits at the location counter of the HMP-1116 and zeros up to four
bytes, or with an 18-bit word at the Central Computer's program counter, and that processor next. -/
def State.placeWord (s : State) (nbits w : Nat) : State :=
  match nbits with
  | 16 => { s.putFull s.pbank s.loc (BitVec.ofNat 32 (w * 65536)) with active := .controller }
  | 32 => { s.putFull s.pbank s.loc (BitVec.ofNat 32 w) with active := .controller }
  | 18 | 24 => { s.setCentral (s.central.putWord s.central.pc (BitVec.ofNat 18 w)) with active := .central }
  | _ => s

end Sys2Proof.Machine
end

