-- ==== Sys2Proof/Machine/Step.lean ====
section
/-! DEFINITION. One step: the interrupt look and the instruction cycle of the HMP-1116 (30_encoding.md R104,
60_exceptions.md R560), or one instruction of the annex machine. -/

namespace Sys2Proof.Machine

/-- One step of the HMP-1116. An unassigned operation code takes the Illegal Instruction Interrupt (60 R542). -/
def controllerStep (s : State) : Result :=
  if s.deviceInterruptDue then serveDevice s
  else
    attempt s.fetch fun d =>
      match d with
      | .ok i => exec i s
      | .error _ => raiseUnassigned s

/-- One step of the Central Computer. An unassigned sub-operation is taken as an illegal op code; the source does not
say whether it is one (49 R456, R524); DESIGN CHOICE, log 52, unsafe. -/
def centralStep (s : State) : Result :=
  match s.centralFetch with
  | some i => exec i s
  | none => centralIllegal s

/-- One step of the processor whose turn it is (log 41). -/
def step (s : State) : Host.Outcome State Fault Refusal :=
  match s.active with
  | .controller => controllerStep s
  | .central => centralStep s

/-- The state with an instruction of spec/opcode_table.json stored where `step` fetches next (log 4). -/
def State.withFetchWord (s : State) (nbits w : Nat) : State := s.placeWord nbits w

end Sys2Proof.Machine
end

