-- ==== Sys2Proof/WellFormed.lean ====
section
/-! DEFINITION. Well-formed instructions: the register-field constraints the source states
(30_encoding.md R114, R115; for the annex shifts 49 R487). Whether a number names a floating-point register
is a platform parameter (10_state.md R34) and is checked when the instruction runs. -/

namespace Sys2Proof

/-- The field constraints of 30_encoding.md R114: an even R1 for multiply, divide and the fullword shifts and
rotates; R1 at most 13 for BXH and BXLE; R2 at most 14 for RBR and WBR; R1 at most 14 for EPPR; R1 zero for
LPSW, SINT and AL. An annex shift has R at most 12 (49 R487). Every other instruction is well formed. -/
def WellFormed (i : Instr) : Bool :=
  match i with
  | .mhr r1 _ | .dhr r1 _ | .mh r1 _ _ | .dh r1 _ _ | .mhur r1 _ | .mhu r1 _ _ | .rrl r1 _ _ | .rll r1 _ _ |
    .srl r1 _ _ | .sll r1 _ _ | .sra r1 _ _ | .sla r1 _ _ =>
    r1.val % 2 == 0
  | .eppr r1 _ =>
    decide (r1.val ≤ 14)
  | .wbr _ r2 | .rbr _ r2 =>
    decide (r2.val ≤ 14)
  | .bxh r1 _ _ | .bxle r1 _ _ =>
    decide (r1.val ≤ 13)
  | .lpsw r1 _ _ | .al r1 _ _ | .sint r1 _ _ =>
    r1 == 0
  | .lsa r _ | .lsb r _ | .rsa r _ | .rsb r _ | .rra r _ | .rrq r _ | .lrb r _ | .rrb r _ =>
    decide (r.toNat ≤ 12)
  | .balr _ _ | .btcr _ _ | .bfcr _ _ | .nhr _ _ | .clhr _ _ | .ohr _ _ | .xhr _ _ | .lhr _ _ | .chr _ _ |
    .ahr _ _ | .shr _ _ | .achr _ _ | .schr _ _ | .lcnhr _ _ | .lavr _ _ | .lchr _ _ | .cldpr _ _ |
    .ldpr _ _ | .cdpr _ _ | .adpr _ _ | .sdpr _ _ | .mdpr _ _ | .ddpr _ _ | .btbs _ _ | .btfs _ _ |
    .bfbs _ _ | .bffs _ _ | .lis _ _ | .lcs _ _ | .ais _ _ | .sis _ _ | .ler _ _ | .cer _ _ | .aer _ _ |
    .ser _ _ | .mer _ _ | .der _ _ | .epor _ _ | .sth _ _ _ | .bal _ _ _ | .btc _ _ _ | .bfc _ _ _ |
    .nh _ _ _ | .clh _ _ _ | .oh _ _ _ | .xh _ _ _ | .lh _ _ _ | .ch _ _ _ | .ah _ _ _ | .sh _ _ _ |
    .ach _ _ _ | .sch _ _ _ | .stdp _ _ _ | .lcnh _ _ _ | .lav _ _ _ | .lch _ _ _ | .cldp _ _ _ | .ldp _ _ _ |
    .cdp _ _ _ | .adp _ _ _ | .sdp _ _ _ | .mdp _ _ _ | .ddp _ _ _ | .ste _ _ _ | .ahm _ _ _ | .atl _ _ _ |
    .abl _ _ _ | .rtl _ _ _ | .rbl _ _ _ | .le _ _ _ | .ce _ _ _ | .ae _ _ _ | .se _ _ _ | .me _ _ _ |
    .de _ _ _ | .lh0 _ _ _ | .lh1 _ _ _ | .lh2 _ _ _ | .lh3 _ _ _ | .srls _ _ | .slls _ _ | .stbr _ _ |
    .lbr _ _ | .exbr _ _ | .epsr _ _ | .whr _ _ | .rhr _ _ | .wdr _ _ | .rdr _ _ | .ssr _ _ | .ocr _ _ |
    .air _ _ | .thi _ _ _ | .nhi _ _ _ | .clhi _ _ _ | .ohi _ _ _ | .xhi _ _ _ | .lhi _ _ _ | .chi _ _ _ |
    .ahi _ _ _ | .shi _ _ _ | .srhl _ _ _ | .slhl _ _ _ | .srha _ _ _ | .slha _ _ _ | .stm _ _ _ | .lm _ _ _ |
    .stb _ _ _ | .lb _ _ _ | .clb _ _ _ | .wb _ _ _ | .rb _ _ _ | .wh _ _ _ | .rh _ _ _ | .wd _ _ _ |
    .rd _ _ _ | .ss _ _ _ | .oc _ _ _ | .ai _ _ _ | .svc _ _ _ | .resb _ _ _ | .sesb _ _ _ | .srql _ _ _ |
    .slql _ _ _ | .srqa _ _ _ | .slqa _ _ _ | .sth0 _ _ _ | .sth1 _ _ _ | .sth2 _ _ _ | .sth3 _ _ _ |
    .tru _ _ | .trn _ _ | .trz _ _ | .tof _ _ | .tsx _ _ | .cma _ _ | .cml _ _ | .tre _ _ | .trh _ _ |
    .trl _ _ | .lck _ | .ulk | .add _ _ | .sub _ _ | .mly _ _ | .div _ _ | .dpa _ _ | .sqr | .cla _ _ |
    .str _ _ | .ldq _ _ | .stq _ _ | .inx _ _ | .dcx _ _ | .trx _ _ _ | .sxh _ _ _ | .lga _ _ | .lgm _ _ |
    .lgc _ _ | .cgc _ _ | .sap | .csa | .xca | .cpa | .lpr | .rpr | .lbi _ | .rbi _ | .sei _ | .rei _ |
    .ski _ | .pia | .pai | .skw _ | .exf _ _ _ | .twa | .twf | .otw | .ipc | .cta | .cts | .ctr | .pmo |
    .pmf | .opa | .opb =>
    true

end Sys2Proof
end

