-- ==== Sys2Proof/Safety.lean ====
section
/-! DEFINITION. The terms claims are stated in: what an access needs, what a step leaves alone, the shapes of results
shared by several instructions, the invariant of the machine, and what changes the mode. -/

namespace Sys2Proof.Safety

open Sys2Proof.Machine

/-! Flags -/

/-- C, PSW bit 12. -/
def flagC (t : State) : Bool := t.cc.getMsbD 0
/-- V, PSW bit 13. -/
def flagV (t : State) : Bool := t.cc.getMsbD 1
/-- G, PSW bit 14. -/
def flagG (t : State) : Bool := t.cc.getMsbD 2
/-- L, PSW bit 15. -/
def flagL (t : State) : Bool := t.cc.getMsbD 3

/-- G and L tell the sign of `v` as a two's complement number. -/
def SignFlags {n : Nat} (t : State) (v : BitVec n) : Prop :=
  flagG t = decide (0 < v.toInt) ∧ flagL t = decide (v.toInt < 0)

/-! Accesses -/

/-- A byte access at `e` of bank `b` finds memory. -/
def ByteReady (s : State) (b : Bank) (e : Half) : Prop := s.present (addr18 b e) = true

/-- A halfword access at `e` of bank `b` is aligned and finds memory. -/
def HalfReady (s : State) (b : Bank) (e : Half) : Prop :=
  e.getLsbD 0 = false ∧ ByteReady s b e ∧ ByteReady s b (e + 1)

/-- A fullword access at `e` of bank `b` is aligned and finds memory. -/
def FullReady (s : State) (b : Bank) (e : Half) : Prop := HalfReady s b e ∧ HalfReady s b (e + 2)

/-- An access at `e` stops: at an odd address as misaligned, at an even one that does not find memory as absent. -/
def Needs (r : Result) (e : Half) (ready : Prop) : Prop :=
  (e.getLsbD 0 = true → r = .fault .misaligned) ∧ (e.getLsbD 0 = false → ¬ready → r = .fault .noMemory)

/-- The two bytes of a halfword. -/
def halfBytes (b : Bank) (e : Half) : List (Bank × Half) := [(b, e), (b, e + 1)]

/-- The four bytes of a fullword. -/
def fullBytes (b : Bank) (e : Half) : List (Bank × Half) := [(b, e), (b, e + 1), (b, e + 2), (b, e + 3)]

/-- The bytes `e`, `e + 1`, ..., `n` of them. -/
def byteRange (b : Bank) (e : Half) (n : Nat) : List (Bank × Half) :=
  (List.range n).map fun k => (b, e + BitVec.ofNat 16 k)

/-! What stays -/

/-- Every general register but `regs`, every byte of memory but `bytes`, the platform, the annex machine and the
processor whose turn it is are as before. -/
structure Frame (s t : State) (regs : List Reg) (bytes : List (Bank × Half)) : Prop where
  /-- Registers. -/
  registers : ∀ r, r ∉ regs → t.reg r = s.reg r
  /-- Memory, byte by byte. -/
  memory : ∀ b e, (b, e) ∉ bytes → t.byteAt b e = s.byteAt b e
  /-- Platform. -/
  platform : t.platform = s.platform
  /-- Annex machine. -/
  central : t.central = s.central
  /-- Selector. -/
  active : t.active = s.active

/-- No device was asked and none was acknowledged. -/
structure DevicesSame (s t : State) : Prop where
  /-- Interrupt requests. -/
  pending : t.pending = s.pending
  /-- Answers to come. -/
  answers : t.answers = s.answers
  /-- Requests sent. -/
  requests : t.requests = s.requests

/-- The frame of an instruction that writes no operational control bit and asks no device. -/
structure Ordinary (s t : State) (regs : List Reg) (bytes : List (Bank × Half)) : Prop where
  /-- Registers, memory and the rest. -/
  frame : Frame s t regs bytes
  /-- PSW(0:11). -/
  control : t.control = s.control
  /-- Devices. -/
  devices : DevicesSame s t

/-- An HMP-1116 state touched only by the annex machine. -/
def OnlyCentral (s t : State) : Prop := t = { s with central := t.central, draws := t.draws }

/-! Shapes of results -/

/-- `v` is loaded into R1: G and L tell its sign, nothing is said of C and V. -/
def LoadsValue (r : Result) (s : State) (r1 : Reg) (v len : Half) : Prop :=
  ∃ t, r = .next t ∧ t.reg r1 = v ∧ SignFlags t v ∧ t.loc = s.loc + len ∧ Ordinary s t [r1] []

/-- R1 receives the exact signed result `total` modulo 2^16. C is `c`, V tells that the exact result does not fit,
G and L tell the sign of what R1 received. -/
def SumsInto (r : Result) (s : State) (r1 : Reg) (total : Int) (c : Bool) (len : Half) : Prop :=
  ∃ t, r = .next t ∧ t.reg r1 = BitVec.ofInt 16 total ∧ flagC t = c ∧
    flagV t = decide (total < -32768 ∨ 32767 < total) ∧ SignFlags t (t.reg r1) ∧ t.loc = s.loc + len ∧
    Ordinary s t [r1] []

/-- An add of `b` and a carry to R1. -/
def AddsInto (r : Result) (s : State) (r1 : Reg) (b : Half) (cin : Bool) (len : Half) : Prop :=
  SumsInto r s r1 ((s.reg r1).toInt + b.toInt + cin.toNat)
    (decide (65536 ≤ (s.reg r1).toNat + b.toNat + cin.toNat)) len

/-- A subtract of `b` and a borrow from R1. -/
def SubtractsFrom (r : Result) (s : State) (r1 : Reg) (b : Half) (cin : Bool) (len : Half) : Prop :=
  SumsInto r s r1 ((s.reg r1).toInt - b.toInt - cin.toNat)
    (decide ((s.reg r1).toNat < b.toNat + cin.toNat)) len

/-- Only the location counter moves. -/
def OnlyAdvances (r : Result) (s : State) (len : Half) : Prop :=
  ∃ t, r = .next t ∧ t.cc = s.cc ∧ t.loc = s.loc + len ∧ Ordinary s t [] []

/-- A register form without flags: R1 receives `v`. -/
def MovesValue (r : Result) (s : State) (r1 : Reg) (v len : Half) : Prop :=
  ∃ t, r = .next t ∧ t.reg r1 = v ∧ t.cc = s.cc ∧ t.loc = s.loc + len ∧ Ordinary s t [r1] []

/-- The halfword `v` is stored at `e` of bank `b`. -/
def StoresHalf (r : Result) (s : State) (b : Bank) (e v : Half) : Prop :=
  ∃ t, r = .next t ∧ t.halfAt b e = v ∧ t.cc = s.cc ∧ t.loc = s.loc + 4 ∧ Ordinary s t [] (halfBytes b e)

/-- The pair at R1 receives a word with a property. -/
def PairBecomes (r : Result) (s : State) (r1 : Reg) (len : Half) (P : Full → Prop) : Prop :=
  ∃ t, r = .next t ∧ P (t.pair r1) ∧ t.cc = s.cc ∧ t.loc = s.loc + len ∧ Ordinary s t [r1, r1 + 1] []

/-- A logical compare of `a` with `b`: C is the borrow, G and L tell the sign of the difference. -/
def ComparesLogically {n : Nat} (r : Result) (s : State) (a b : BitVec n) (len : Half) : Prop :=
  ∃ t, r = .next t ∧ flagC t = decide (a.toNat < b.toNat) ∧ SignFlags t (a - b) ∧ t.loc = s.loc + len ∧
    Ordinary s t [] []

/-- An algebraic compare of `a` with `b`. -/
def Compares (r : Result) (s : State) (a b : Half) (len : Half) : Prop :=
  ∃ t, r = .next t ∧ flagC t = decide (a.toInt < b.toInt) ∧ flagG t = decide (b.toInt < a.toInt) ∧
    flagL t = decide (a.toInt < b.toInt) ∧ t.loc = s.loc + len ∧ Ordinary s t [] []

/-- A halfword shift of R1 by `n` that gives `v`; `out` is the last bit shifted out. -/
def ShiftsHalf (r : Result) (s : State) (r1 : Reg) (n : Nat) (v : Half) (out : Bool) (len : Half) : Prop :=
  ∃ t, r = .next t ∧ t.reg r1 = v ∧ (1 ≤ n → flagC t = out) ∧ flagV t = false ∧ SignFlags t v ∧
    t.loc = s.loc + len ∧ Ordinary s t [r1] []

/-- A fullword shift of the pair at R1. -/
def ShiftsFull (r : Result) (s : State) (r1 : Reg) (n : Nat) (v : Full) (out : Bool) : Prop :=
  ∃ t, r = .next t ∧ t.pair r1 = v ∧ (1 ≤ n → flagC t = out) ∧ flagV t = false ∧ SignFlags t v ∧
    t.loc = s.loc + 4 ∧ Ordinary s t [r1, r1 + 1] []

/-- A branch to `a` when `taken`. -/
def BranchesTo (r : Result) (s : State) (taken : Prop) [Decidable taken] (a len : Half) : Prop :=
  ∃ t, r = .next t ∧ t.loc = (if taken then a else s.loc + len) ∧ t.cc = s.cc ∧ Ordinary s t [] []

/-! Interrupts -/

/-- Both PSW locations of an interrupt class find memory. -/
def VectorReady (s : State) (k : Interrupt) : Prop :=
  FullReady s 0 (s.platform.vector k).old ∧ FullReady s 0 (s.platform.vector k).new

/-- A Program Status Word exchange from `s` at two locations of bank 0, with a saved location counter: nothing else
changes. -/
def ExchangesAt (s t : State) (old new saved : Half) : Prop :=
  t.fullAt 0 old = s.ps ++ saved ∧ t.psw = t.fullAt 0 new ∧ Frame s t [] (fullBytes 0 old) ∧ DevicesSame s t

/-- The Program Status Word exchange of class `k`. -/
def Exchanges (s t : State) (k : Interrupt) (saved : Half) : Prop :=
  ExchangesAt s t (s.platform.vector k).old (s.platform.vector k).new saved

/-- The interrupt of class `k` is taken by an instruction of `len` bytes. -/
def Interrupts (r : Result) (s : State) (k : Interrupt) (len : Half) : Prop :=
  ∃ t, r = .next t ∧
    Exchanges s t k (if (s.platform.vector k).savesNext then s.loc + len else s.loc)

/-- The platform has a device service that exchanges the Program Status Word, and what it reads and writes for device `d`
finds memory: the vector of the class, or an entry of the Service Pointer Table that asks for an Immediate Interrupt. -/
def ServiceReady (s : State) (d : Byte) : Prop :=
  match s.platform.service with
  | .exchange => VectorReady s .deviceInterrupt
  | .pointerTable p =>
    let entry := s.halfAt 0 (serviceEntryAt p d)
    HalfReady s 0 (serviceEntryAt p d) ∧ entry &&& p.channelMask = 0 ∧ FullReady s 0 entry ∧
      FullReady s 0 (entry + p.newOffset)
  | _ => False

/-- Device `d` was served by a Program Status Word exchange. -/
def Serves (s t : State) (d : Byte) (saved : Half) : Prop :=
  match s.platform.service with
  | .pointerTable p =>
    ExchangesAt s t (s.halfAt 0 (serviceEntryAt p d)) (s.halfAt 0 (serviceEntryAt p d) + p.newOffset) saved
  | _ => Exchanges s t .deviceInterrupt saved

/-- The 22 privileged operation codes (60_exceptions.md R541). -/
def privilegedCodes : List Byte :=
  [0xC2, 0x95, 0xE2, 0x96, 0x97, 0x98, 0x99, 0x9A, 0x9B, 0x9D, 0x9E, 0x9F,
    0xD5, 0xD6, 0xD7, 0xD8, 0xD9, 0xDA, 0xDB, 0xDD, 0xDE, 0xDF]

/-- An instruction that may change the mode from a state: LPSW, EPSR, SVC; SINT on a platform with a device service; in
Protect Mode a privileged one; a divide with its fault enabled; a floating-point result with its fault enabled. Told by
the operation code. -/
def mayChangeMode (i : Instr) (s : State) : Bool :=
  match encode i with
  | .bytes (op :: _) =>
    [0xC2, 0x95, 0xE1].contains op || (s.prot && privilegedCodes.contains op) ||
      (decide (s.platform.service ≠ .notSpecified) && op == 0xE2) ||
      (s.fde && [0x0D, 0x4D].contains op) ||
      (s.fpe && [0x28, 0x2A, 0x2B, 0x2C, 0x2D, 0x68, 0x6A, 0x6B, 0x6C, 0x6D].contains op)
  | _ => false

/-! Floating point -/

/-- Floating-point register `r` is valid, at address `a`, and finds memory there. -/
def FprReady (s : State) (r : Reg) (a : BitVec 18) : Prop :=
  s.platform.fprAddress[r.val] = some a ∧ FullReady s (a.extractLsb' 16 2) (a.extractLsb' 0 16)

/-- The fullword of the floating-point register at address `a`. -/
def fprWord (s : State) (a : BitVec 18) : Full := s.fullAt (a.extractLsb' 16 2) (a.extractLsb' 0 16)

/-- The four bytes of the floating-point register at address `a`. -/
def fprBytes (a : BitVec 18) : List (Bank × Half) := fullBytes (a.extractLsb' 16 2) (a.extractLsb' 0 16)

/-- A floating-point result is delivered to the register at `a1` with its V, G and L. -/
def Delivered (s t : State) (a1 : BitVec 18) (x : FpResult) : Prop :=
  fprWord t a1 = x.word ∧ flagV t = x.v ∧ flagG t = x.g ∧ flagL t = x.l ∧ Ordinary s t [] (fprBytes a1)

/-- The result is delivered and the next instruction follows, unless an enabled fault is caused: then, with the result
delivered and the location counter not yet moved, the Floating-Point Fault is raised. -/
def Delivers (r : Result) (s : State) (a1 : BitVec 18) (x : FpResult) (len : Half) : Prop :=
  if x.v && s.fpe then ∃ u, Delivered s u a1 x ∧ u.loc = s.loc ∧ r = raise .floatingPointFault len u
  else ∃ t, r = .next t ∧ Delivered s t a1 x ∧ t.loc = s.loc + len

/-- The result is what `P` says: with the fault disabled the instruction completes, else it delivers. -/
def Yields (r : Result) (s : State) (a1 : BitVec 18) (P : FpResult → Prop) (len : Half) : Prop :=
  (s.fpe = false → ∃ t x, r = .next t ∧ P x ∧ Delivered s t a1 x ∧ t.loc = s.loc + len) ∧
    (s.fpe = true → ∃ x, P x ∧ Delivers r s a1 x len)

/-- An operation on an unnormalized operand goes on: the result is normalized or true zero, and G and L tell its sign. -/
def RunsOn (r : Result) (s : State) (a1 : BitVec 18) (len : Half) : Prop :=
  Yields r s a1 (fun x => fpAccepted x.word = true ∧ x.g = decide (0 < fpValue x.word) ∧
    x.l = decide (fpValue x.word < 0)) len

/-! Floating-point values. `fpValue` is the value of a word times `2^24 * 16^64`, an integer. -/

/-- True zero, without V. -/
def TrueZero (x : FpResult) : Prop := x.word = 0 ∧ x.v = false ∧ x.g = false ∧ x.l = false

/-- Exponent underflow: true zero with V. -/
def Underflows (x : FpResult) : Prop := x.word = 0 ∧ x.v = true ∧ x.g = false ∧ x.l = false

/-- Exponent overflow: exponent and fraction all ones, V, and G or L by the sign. -/
def Overflows (x : FpResult) (sign : Bool) : Prop :=
  x.word = (if sign then 0xFFFFFFFF else 0x7FFFFFFF) ∧ x.v = true ∧ x.g = !sign ∧ x.l = sign

/-- The word of a sign, an exponent and a fraction, V reset, and G or L by the sign. -/
def Holds (x : FpResult) (sign : Bool) (e f : Nat) : Prop :=
  fpFields x.word = { sign := sign, exponent := e, fraction := f } ∧ x.v = false ∧ x.g = !sign ∧ x.l = sign

/-- The result of loading `w`: its value, unless the exponent underflows. -/
def IsLoad (w : Full) (x : FpResult) : Prop :=
  (fpValue w = 0 → TrueZero x) ∧
    (0 < (fpValue w).natAbs → (fpValue w).natAbs < 2 ^ 20 → Underflows x) ∧
    (2 ^ 20 ≤ (fpValue w).natAbs → fpAccepted x.word = true ∧ fpValue x.word = fpValue w ∧ x.v = false ∧
      x.g = decide (0 < fpValue w) ∧ x.l = decide (fpValue w < 0))

/-- The value of `w` times `16^guard` after its fraction was shifted right to exponent `e` with `guard` hexadecimal
digits kept. -/
def alignedValue (guard e : Nat) (w : Full) : Int :=
  (if w.msb then -1 else 1) *
    (((fpFields w).fraction * 16 ^ guard / 16 ^ (e - (fpFields w).exponent) * 16 ^ e : Nat) : Int)

/-- The exponent two words are aligned to. -/
def commonExponent (a b : Full) : Nat := max (fpFields a).exponent (fpFields b).exponent

/-- The result of a sum of aligned values, `t` being that sum: the six leading hexadecimal digits of `t` are kept and the
rest is dropped. -/
def IsSum (guard : Nat) (t : Int) (x : FpResult) : Prop :=
  (t = 0 → TrueZero x) ∧
    (2 ^ 24 * 16 ^ 127 * 16 ^ guard ≤ t.natAbs → Overflows x (decide (t < 0))) ∧
    (0 < t.natAbs → t.natAbs < 2 ^ 20 * 16 ^ guard → Underflows x) ∧
    (2 ^ 20 * 16 ^ guard ≤ t.natAbs → t.natAbs < 2 ^ 24 * 16 ^ 127 * 16 ^ guard →
      ∃ e f, e ≤ 127 ∧ 2 ^ 20 ≤ f ∧ f < 2 ^ 24 ∧ f * 16 ^ e * 16 ^ guard ≤ t.natAbs ∧
        t.natAbs < (f + 1) * 16 ^ e * 16 ^ guard ∧ Holds x (decide (t < 0)) e f)

/-- The result of rounding the magnitude `n / d`: `q` is the truncated fraction at exponent `e`, and `f` the rounded one,
half up or, by the platform's own function, within one unit. -/
def Rounds (rule : Rounding) (n d : Nat) (sign : Bool) (x : FpResult) : Prop :=
  ∃ e q f, 2 ^ 20 ≤ q ∧ q < 2 ^ 24 ∧ q * 16 ^ e * d ≤ n ∧ n < (q + 1) * 16 ^ e * d ∧
    (rule = .halfUp → f = if (2 * q + 1) * 16 ^ e * d ≤ 2 * n then q + 1 else q) ∧
    (rule = .supplied → 2 ^ 20 ≤ f ∧ q ≤ f + 1 ∧ f ≤ q + 1) ∧
    let r := if f = 2 ^ 24 then (e + 1, 2 ^ 20) else (e, f)
    if 127 < r.1 then Overflows x sign else Holds x sign r.1 r.2

/-- The product of `a` and `b`: the exponents are tested first, a zero factor before them. -/
def IsProduct (rule : Rounding) (a b : Full) (x : FpResult) : Prop :=
  let e := (fpFields a).exponent + (fpFields b).exponent
  let n := (fpFields a).fraction * (fpFields b).fraction * 16 ^ e
  let d := 2 ^ 24 * 16 ^ 64
  let sign := a.msb ^^ b.msb
  (a = 0 ∨ b = 0 → TrueZero x) ∧
    (a ≠ 0 → b ≠ 0 → (191 < e → Overflows x sign) ∧ (n < 2 ^ 20 * d → Underflows x) ∧
      (e ≤ 191 → 2 ^ 20 * d ≤ n → Rounds rule n d sign x))

/-- The quotient of `a` by a nonzero `b`: the exponents are tested first, a zero dividend before them. -/
def IsQuotient (rule : Rounding) (a b : Full) (x : FpResult) : Prop :=
  let ea := (fpFields a).exponent
  let eb := (fpFields b).exponent
  (a = 0 → TrueZero x) ∧
    (a ≠ 0 → (eb + 63 < ea → Overflows x (a.msb ^^ b.msb)) ∧ (ea + 64 < eb → Underflows x) ∧
      (ea ≤ eb + 63 → eb ≤ ea + 64 →
        Rounds rule ((fpFields a).fraction * 2 ^ 24 * 16 ^ (ea + 64)) ((fpFields b).fraction * 16 ^ eb)
          (a.msb ^^ b.msb) x))

/-! Annex -/

/-- The illegal instruction operation (49 R524): the indicator is set; with the restart pushbutton enabled the program
counter, or its successor, goes to T and control to location zero; else the next instruction in sequence. -/
def IllegalOperation (s t : State) : Prop :=
  let c := s.central
  OnlyCentral s t ∧
    (c.restartEnabled = true →
      t.central = { c with illegalIndicator := true, tRegister := t.central.tRegister, pc := 0 } ∧
        (t.central.tRegister = c.pc ∨ t.central.tRegister = c.pc + 1)) ∧
    (c.restartEnabled = false → t.central = { c with illegalIndicator := true, pc := c.pc + 1 })

/-- The accumulator bit of a sense indicator (49 R508, R509). -/
def senseBit (w : CWord) (k : Fin 13) : Bool := w.getLsbD (Config.centralSenseBit k).val

/-! Devices -/

/-- The status byte an instruction delivers for an answer: on a time-out bits 0:3 are zero and bit 5 is one. -/
def deliveredStatus (a : DeviceAnswer) : Byte := if a.timeout then (a.status &&& 0x0B) ||| 0x04 else a.status

/-- One request `q` was sent, one queued answer (if any) was used, and the operational control bits are as before. -/
structure Asked (s t : State) (q : DeviceRequest) : Prop where
  /-- The request is logged. -/
  requests : t.requests = s.requests ++ [q]
  /-- The next answer is used up. -/
  answers : t.answers = s.answers.tail
  /-- PSW(0:11). -/
  control : t.control = s.control

/-- The answer to the next request. -/
def answerTo (s : State) : DeviceAnswer := s.answers.headD (Config.deviceAnswer s.draws)

/-- The condition of a block transfer: the answer's when the transfer was complete, else nonzero. -/
def BlockCondition (t : State) (a : DeviceAnswer) (complete : Prop) : Prop :=
  (complete → t.cc = a.cc) ∧ (¬complete → t.cc ≠ 0 ∧ (a.cc ≠ 0 → t.cc = a.cc))

/-! Lists -/

/-- The parameters of the list at `a` in the operand bank. -/
def listHead (s : State) (a : Half) : ListHead :=
  { slots := s.byteAt s.obank a, used := s.byteAt s.obank (a + 1), top := s.byteAt s.obank (a + 2),
    bottom := s.byteAt s.obank (a + 3) }

/-- The list at `a` is aligned, its parameter bytes find memory and are consistent. -/
def ListReady (s : State) (a : Half) : Prop :=
  a.getLsbD 0 = false ∧ (∀ k < 4, ByteReady s s.obank (a + BitVec.ofNat 16 k)) ∧ (listHead s a).consistent = true

/-- The address of slot `p` of the list at `a`. -/
def slotAt (a : Half) (p : Byte) : Half := a + 4 + BitVec.ofNat 16 (2 * p.toNat)

/-- The slot above the last in the ring of `n` slots. -/
def ringUp (n p : Byte) : Byte := if p.toNat + 1 = n.toNat then 0 else p + 1

/-- The slot below the first in the ring of `n` slots. -/
def ringDown (n p : Byte) : Byte := if p = 0 then n - 1 else p - 1

/-! The invariant -/

/-- Main memory and the annex's stores are in canonical form, and in the single processor configuration F7 of the
annex machine is set (49 R505). -/
structure Invariant (s : State) : Prop where
  /-- Main memory. -/
  memory : s.mem.wf
  /-- Annex memory. -/
  centralMemory : StoreWf 0 s.central.mem
  /-- Annex page registers. -/
  pages : StoreWf 0 s.central.pages
  /-- F7. -/
  singleProcessor : s.central.dual = false → s.central.indicator 6 = true

end Sys2Proof.Safety
end

