-- ==== Sys2Proof/Certificates/Slice0/Obligations.lean ====
section
/-! DEFINITION. Statements for the provers. Where a statement uses `State.sum` or `State.index`, a zero X2 field means
no index (30_encoding.md R108; log 5, the model's choice). -/

open Sys2Proof Sys2Proof.Machine Sys2Proof.Safety

/-! The machine as a whole -/

/-- The state after reset meets the invariant. Every reset value in it is the model's choice (logs 3, 44). -/
def Obligations.ResetMeetsInvariant : Prop := Invariant State.reset

/-- Every step keeps the invariant, from every state that meets it. The canonical form is the model's (log 3); F7 of
the annex machine is always set in the single processor configuration (49 R505). -/
def Obligations.StepKeepsInvariant : Prop :=
  ∀ s t : State, Invariant s → step s = .next t → Invariant t

/-- Decoding the encoding of a well-formed instruction gives it back, with every operand at every value. The lost
annex layouts are the model's (log 42). -/
def Obligations.DecodeOfEncode : Prop :=
  ∀ (alias3A : Bool) (i : Instr), WellFormed i = true → decodeCode alias3A (encode i) = .ok i

/-- With the alias of AER off (30_encoding.md R113, log 40) there are 150 operation codes, all different; an
instruction has 16 bits exactly when its code begins with the hexadecimal digit 0, 1, 2 or 9 (the spec's own inference,
R106); any other code is rejected by name. -/
def Obligations.OperationCodes : Prop :=
  (operationCodes.map (·.1)).Nodup ∧ operationCodes.length = 150 ∧
    (∀ row ∈ operationCodes, row.2.long = !([0, 1, 2, 9].contains (row.1.toNat / 16))) ∧
    ∀ (op b : Byte) (rest : List Byte), op ∉ operationCodes.map (·.1) →
      decode false (op :: b :: rest) = .error (.unassigned op)

/-- A few words written out from the spec's encodings decode to the instructions they stand for. -/
def Obligations.WordsDecode : Prop :=
  decodeTableWord 16 0x0812 = some (.lhr 1 2) ∧ decodeTableWord 32 0x48120200 = some (.lh 1 2 0x0200) ∧
    decodeTableWord 16 0x2083 = some (.btbs 8 3) ∧ decodeTableWord 32 0xC330_0200 = some (.thi 3 0 0x0200) ∧
    decodeTableWord 16 0x2E50 = some (.epor 5 0) ∧ decodeTableWord 24 0b010000011100000101 = some (.inx 3 5)

/-- When the bytes at the location counter decode to an instruction and find memory, a step runs that
instruction; when the word at the program counter of the annex machine decodes to one, a step of that machine runs it.
Nothing is added around `exec`: each instruction moves its own location counter. That the fetch is in the bank of
PSW(8:9) (D2, log 6) and wraps in it (D27, log 25), and which processor takes the step (log 41), are the model's. -/
def Obligations.StepRunsDecoded : Prop :=
  (∀ (s : State) (i : Instr) (l : List Byte), s.active = .controller → s.deviceInterruptDue = false →
    s.loc.getLsbD 0 = false → encode i = .bytes l →
    (∀ k < l.length, ByteReady s s.pbank (s.loc + BitVec.ofNat 16 k)) →
    decode s.platform.aerAlias3A
      [s.byteAt s.pbank s.loc, s.byteAt s.pbank (s.loc + 1), s.byteAt s.pbank (s.loc + 2),
        s.byteAt s.pbank (s.loc + 3)] = .ok i →
    step s = exec i s) ∧
  ∀ (s : State) (i : Instr), s.active = .central → decodeCentral (s.central.word s.central.pc) = some i →
    step s = exec i s

/-- An operation code that is not assigned takes the Illegal Instruction Interrupt, in either mode. The spec decides
so (D6); the fetch is in the bank of PSW(8:9) (D2, log 6), the exchange goes through two fullwords of bank 0 (D7, log
11), and the saved location counter is its own address unless the platform saves a successor (log 10, 12, 38). On the
annex machine an unassigned sub-operation, taken as an illegal op code (log 52; places of the fields: log 42), is an
illegal instruction operation. -/
def Obligations.UnassignedCodeInterrupts : Prop :=
  (∀ s : State, s.active = .controller → s.deviceInterruptDue = false → HalfReady s s.pbank s.loc →
    formOf s.platform.aerAlias3A (s.byteAt s.pbank s.loc) = none → VectorReady s .illegalInstruction →
    ∃ t saved, step s = .next t ∧ Exchanges s t .illegalInstruction saved ∧
      (s.platform.illegal.savesNext = false → saved = s.loc)) ∧
  (∀ s : State, s.active = .central → decodeCentral (s.central.word s.central.pc) = none →
    ∃ t, step s = .next t ∧ IllegalOperation s t) ∧
  ∀ (op : BitVec 5) (r : BitVec 4) (x : BitVec 3) (k : BitVec 6),
    decodeCentral (op ++ r ++ x ++ k) = none ↔
      (op = 0o15 ∧ x = 0) ∨ (op = 0o16 ∧ 4 ≤ x.toNat) ∨ (op = 0o37 ∧ x = 7)

/-- In Protect Mode each of the 22 privileged instructions takes the Illegal Instruction Interrupt: no register, no
memory outside the Old PSW and no device is touched. The vector locations and the saved location counter are parameters
(logs 11, 12). -/
def Obligations.PrivilegedInProtectMode : Prop :=
  ∀ (s : State) (i : Instr) (op : Byte) (l : List Byte), encode i = .bytes (op :: l) → op ∈ privilegedCodes →
    s.prot = true → VectorReady s .illegalInstruction →
    Interrupts (exec i s) s .illegalInstruction (BitVec.ofNat 16 (l.length + 1))

/-- The mode changes only by LPSW, EPSR and SVC, by the interrupts an instruction takes and by SINT on a platform with a
device service: every other instruction that completes leaves PSW bit 7 as it was. -/
def Obligations.ModeChangesOnlyBy : Prop :=
  ∀ (s t : State) (i : Instr), exec i s = .next t → t.prot ≠ s.prot → mayChangeMode i s = true

/-! Load and store -/

/-- LIS, LCS and LHR: the operand in R1, G and L by its sign, and the operation codes. Nothing is said of C and V, which
the charts leave undefined. -/
def Obligations.LoadRegister : Prop :=
  ∀ (s : State) (r1 r2 : Reg) (n : BitVec 4),
    LoadsValue (exec (.lis r1 n) s) s r1 (BitVec.ofNat 16 n.toNat) 2 ∧
    LoadsValue (exec (.lcs r1 n) s) s r1 (BitVec.ofInt 16 (-(n.toNat : Int))) 2 ∧
    LoadsValue (exec (.lhr r1 r2) s) s r1 (s.reg r2) 2 ∧
    encode (.lis r1 n) = .bytes [0x24, field r1 ++ n] ∧ encode (.lcs r1 n) = .bytes [0x25, field r1 ++ n] ∧
    encode (.lhr r1 r2) = .bytes [0x08, field r1 ++ field r2]

/-- LH through the operand bank, LH0 to LH3 through the bank they name; LHI loads the operand sum itself, without an
access (an X2 field of 0: log 5; the sum wraps: log 25). -/
def Obligations.LoadHalfword : Prop :=
  ∀ (s : State) (r1 x2 : Reg) (a2 : Half),
    LoadsValue (exec (.lhi r1 x2 a2) s) s r1 (s.sum a2 x2) 4 ∧
    ∀ p ∈ [(s.obank, Instr.lh r1 x2 a2), (0, Instr.lh0 r1 x2 a2), (1, Instr.lh1 r1 x2 a2),
        (2, Instr.lh2 r1 x2 a2), (3, Instr.lh3 r1 x2 a2)],
      HalfReady s p.1 (s.sum a2 x2) →
      LoadsValue (exec p.2 s) s r1 (s.byteAt p.1 (s.sum a2 x2) ++ s.byteAt p.1 (s.sum a2 x2 + 1)) 4

/-- STH through the operand bank, STH0 to STH3 through the bank they name. -/
def Obligations.StoreHalfword : Prop :=
  ∀ (s : State) (r1 x2 : Reg) (a2 : Half),
    ∀ p ∈ [(s.obank, Instr.sth r1 x2 a2), (0, Instr.sth0 r1 x2 a2), (1, Instr.sth1 r1 x2 a2),
        (2, Instr.sth2 r1 x2 a2), (3, Instr.sth3 r1 x2 a2)],
      HalfReady s p.1 (s.sum a2 x2) → StoresHalf (exec p.2 s) s p.1 (s.sum a2 x2) (s.reg r1)

/-- LM loads R1 to R15 from successive halfwords; STM stores them. The index is read once (D37, log 37). -/
def Obligations.LoadStoreMultiple : Prop :=
  ∀ (s : State) (r1 x2 : Reg) (a2 : Half),
    (∀ k < 16 - r1.val, HalfReady s s.obank (s.sum a2 x2 + BitVec.ofNat 16 (2 * k))) →
    (∃ t, exec (.lm r1 x2 a2) s = .next t ∧ t.cc = s.cc ∧ t.loc = s.loc + 4 ∧
      (∀ r : Reg, r1 ≤ r → t.reg r = s.halfAt s.obank (s.sum a2 x2 + BitVec.ofNat 16 (2 * (r.val - r1.val)))) ∧
      Ordinary s t ((List.finRange 16).filter fun r => decide (r1 ≤ r)) []) ∧
    ∃ t, exec (.stm r1 x2 a2) s = .next t ∧ t.cc = s.cc ∧ t.loc = s.loc + 4 ∧
      (∀ r : Reg, r1 ≤ r → t.halfAt s.obank (s.sum a2 x2 + BitVec.ofNat 16 (2 * (r.val - r1.val))) = s.reg r) ∧
      Ordinary s t [] (byteRange s.obank (s.sum a2 x2) (2 * (16 - r1.val)))

/-! Fixed-point arithmetic -/

/-- The adds into a register, and AHM, which adds R1 to the memory halfword and leaves every register alone. The
operand sum of AHI leaves no flag (D28, log 25); G and L tell the sign of the 16-bit result (D12, D46, log 21). -/
def Obligations.AddHalfword : Prop :=
  ∀ (s : State) (r1 r2 x2 : Reg) (n : BitVec 4) (a : Half),
    AddsInto (exec (.ais r1 n) s) s r1 (BitVec.ofNat 16 n.toNat) false 2 ∧
    AddsInto (exec (.ahr r1 r2) s) s r1 (s.reg r2) false 2 ∧
    AddsInto (exec (.ahi r1 x2 a) s) s r1 (s.sum a x2) false 4 ∧
    AddsInto (exec (.achr r1 r2) s) s r1 (s.reg r2) (flagC s) 2 ∧
    (HalfReady s s.obank (s.sum a x2) →
      AddsInto (exec (.ah r1 x2 a) s) s r1 (s.halfAt s.obank (s.sum a x2)) false 4 ∧
      AddsInto (exec (.ach r1 x2 a) s) s r1 (s.halfAt s.obank (s.sum a x2)) (flagC s) 4 ∧
      let p := (s.reg r1).toNat + (s.halfAt s.obank (s.sum a x2)).toNat
      let v := (s.reg r1).toInt + (s.halfAt s.obank (s.sum a x2)).toInt
      ∃ t, exec (.ahm r1 x2 a) s = .next t ∧ t.halfAt s.obank (s.sum a x2) = BitVec.ofNat 16 p ∧
        flagC t = decide (65536 ≤ p) ∧ flagV t = decide (v < -32768 ∨ 32767 < v) ∧
        SignFlags t (BitVec.ofNat 16 p) ∧ t.loc = s.loc + 4 ∧
        Ordinary s t [] (halfBytes s.obank (s.sum a x2)))

/-- The subtracts from a register; the old C is the borrow of SCH and SCHR (D12, D28, D46, logs 21, 25). -/
def Obligations.SubtractHalfword : Prop :=
  ∀ (s : State) (r1 r2 x2 : Reg) (n : BitVec 4) (a : Half),
    SubtractsFrom (exec (.sis r1 n) s) s r1 (BitVec.ofNat 16 n.toNat) false 2 ∧
    SubtractsFrom (exec (.shr r1 r2) s) s r1 (s.reg r2) false 2 ∧
    SubtractsFrom (exec (.shi r1 x2 a) s) s r1 (s.sum a x2) false 4 ∧
    SubtractsFrom (exec (.schr r1 r2) s) s r1 (s.reg r2) (flagC s) 2 ∧
    (HalfReady s s.obank (s.sum a x2) →
      SubtractsFrom (exec (.sh r1 x2 a) s) s r1 (s.halfAt s.obank (s.sum a x2)) false 4 ∧
      SubtractsFrom (exec (.sch r1 x2 a) s) s r1 (s.halfAt s.obank (s.sum a x2)) (flagC s) 4)

/-- The multiplies: the pair receives the exact product of R1 + 1 and the second operand; an odd R1 is refused (log
9). -/
def Obligations.Multiply : Prop :=
  ∀ (s : State) (r1 r2 x2 : Reg) (a2 : Half),
    (r1.val % 2 = 0 →
      PairBecomes (exec (.mhr r1 r2) s) s r1 2 (fun p => p.toInt = (s.reg (r1 + 1)).toInt * (s.reg r2).toInt) ∧
      PairBecomes (exec (.mhur r1 r2) s) s r1 2 (fun p => p.toNat = (s.reg (r1 + 1)).toNat * (s.reg r2).toNat)) ∧
    (r1.val % 2 = 0 → HalfReady s s.obank (s.sum a2 x2) →
      PairBecomes (exec (.mh r1 x2 a2) s) s r1 4
        (fun p => p.toInt = (s.reg (r1 + 1)).toInt * (s.halfAt s.obank (s.sum a2 x2)).toInt) ∧
      PairBecomes (exec (.mhu r1 x2 a2) s) s r1 4
        (fun p => p.toNat = (s.reg (r1 + 1)).toNat * (s.halfAt s.obank (s.sum a2 x2)).toNat)) ∧
    (r1.val % 2 = 1 → ∀ i ∈ [Instr.mhr r1 r2, .mhur r1 r2, .mh r1 x2 a2, .mhu r1 x2 a2],
      exec i s = .refused .oddPairRegister)

/-- DHR and DH with a quotient that fits: quotient to R1 + 1, remainder to R1. A quotient of magnitude 32768 is refused
(D19), the spec's default; on a platform of the other policy the model's choice is free: the divide faults, or it stores
the remainder and, for a negative quotient, X'8000' (log 18). An odd R1 is refused (log 9). -/
def Obligations.Divide : Prop :=
  ∀ (s : State) (r1 r2 x2 : Reg) (a2 d len : Half) (i : Instr),
    (i = .dhr r1 r2 ∧ d = s.reg r2 ∧ len = 2) ∨
      (i = .dh r1 x2 a2 ∧ d = s.halfAt s.obank (s.sum a2 x2) ∧ len = 4 ∧ HalfReady s s.obank (s.sum a2 x2)) →
    let q := (s.pair r1).toInt.tdiv d.toInt
    let r := (s.pair r1).toInt.tmod d.toInt
    (r1.val % 2 = 0 → d ≠ 0 → q.natAbs ≤ 32767 →
      PairBecomes (exec i s) s r1 len fun p =>
        (p.extractLsb' 16 16).toInt = r ∧ (p.extractLsb' 0 16).toInt = q) ∧
    (r1.val % 2 = 0 → d ≠ 0 → q.natAbs = 32768 → s.platform.undefined = .goesOn →
      (exec i s = divideFault len (s.drawn 2)) ∨
      PairBecomes (exec i s) s r1 len fun p =>
        (p.extractLsb' 16 16).toInt = r ∧ (q < 0 → p.extractLsb' 0 16 = 0x8000)) ∧
    (r1.val % 2 = 0 → d ≠ 0 → q.natAbs = 32768 → s.platform.undefined = .refused →
      exec i s = .refused .divideQuotientBoundary) ∧
    (r1.val % 2 = 1 → exec i s = .refused .oddPairRegister)

/-- A divide by zero, or with a quotient of magnitude above 32768: with FDE set the Fixed-Point Divide Fault from the
state before the divide, else nothing but the location counter changes (D19, log 19; vector: logs 11, 12). -/
def Obligations.DivideFaults : Prop :=
  ∀ (s : State) (r1 r2 x2 : Reg) (a2 d len : Half) (i : Instr), r1.val % 2 = 0 →
    (i = .dhr r1 r2 ∧ d = s.reg r2 ∧ len = 2) ∨
      (i = .dh r1 x2 a2 ∧ d = s.halfAt s.obank (s.sum a2 x2) ∧ len = 4 ∧ HalfReady s s.obank (s.sum a2 x2)) →
    (d = 0 ∨ 32768 < ((s.pair r1).toInt.tdiv d.toInt).natAbs) →
    (s.fde = false → OnlyAdvances (exec i s) s len) ∧
    (s.fde = true → VectorReady s .fixedPointDivideFault → Interrupts (exec i s) s .fixedPointDivideFault len)

/-! Logical, compare and byte handling -/

/-- AND, OR and exclusive OR into a register. Which of G and L a result that is not zero sets, by its sign bit, is the
model's choice (D43, log 22). -/
def Obligations.Logical : Prop :=
  ∀ (s : State) (r1 r2 x2 : Reg) (a : Half),
    LoadsValue (exec (.nhr r1 r2) s) s r1 (s.reg r1 &&& s.reg r2) 2 ∧
    LoadsValue (exec (.ohr r1 r2) s) s r1 (s.reg r1 ||| s.reg r2) 2 ∧
    LoadsValue (exec (.xhr r1 r2) s) s r1 (s.reg r1 ^^^ s.reg r2) 2 ∧
    LoadsValue (exec (.nhi r1 x2 a) s) s r1 (s.reg r1 &&& s.sum a x2) 4 ∧
    LoadsValue (exec (.ohi r1 x2 a) s) s r1 (s.reg r1 ||| s.sum a x2) 4 ∧
    LoadsValue (exec (.xhi r1 x2 a) s) s r1 (s.reg r1 ^^^ s.sum a x2) 4 ∧
    (HalfReady s s.obank (s.sum a x2) →
      LoadsValue (exec (.nh r1 x2 a) s) s r1 (s.reg r1 &&& s.halfAt s.obank (s.sum a x2)) 4 ∧
      LoadsValue (exec (.oh r1 x2 a) s) s r1 (s.reg r1 ||| s.halfAt s.obank (s.sum a x2)) 4 ∧
      LoadsValue (exec (.xh r1 x2 a) s) s r1 (s.reg r1 ^^^ s.halfAt s.obank (s.sum a x2)) 4)

/-- The logical compares (C the borrow, G and L the sign of the difference: D14, D16, log 22), THI, and the algebraic
compares (C when the first operand is lower: D15, log 23). No register and no memory changes. -/
def Obligations.CompareAndTest : Prop :=
  ∀ (s : State) (r1 r2 x2 : Reg) (a : Half),
    ComparesLogically (exec (.clhr r1 r2) s) s (s.reg r1) (s.reg r2) 2 ∧
    ComparesLogically (exec (.clhi r1 x2 a) s) s (s.reg r1) (s.sum a x2) 4 ∧
    (HalfReady s s.obank (s.sum a x2) →
      ComparesLogically (exec (.clh r1 x2 a) s) s (s.reg r1) (s.halfAt s.obank (s.sum a x2)) 4) ∧
    (ByteReady s s.obank (s.sum a x2) →
      ComparesLogically (exec (.clb r1 x2 a) s) s ((s.reg r1).extractLsb' 0 8) (s.byteAt s.obank (s.sum a x2)) 4) ∧
    (∃ t, exec (.thi r1 x2 a) s = .next t ∧ SignFlags t (s.reg r1 &&& s.sum a x2) ∧ t.loc = s.loc + 4 ∧
      Ordinary s t [] []) ∧
    Compares (exec (.chr r1 r2) s) s (s.reg r1) (s.reg r2) 2 ∧
    Compares (exec (.chi r1 x2 a) s) s (s.reg r1) (s.sum a x2) 4 ∧
    (HalfReady s s.obank (s.sum a x2) →
      Compares (exec (.ch r1 x2 a) s) s (s.reg r1) (s.halfAt s.obank (s.sum a x2)) 4)

/-- The register forms of the byte instructions: LBR clears the left byte, STBR keeps the left byte of R2, EXBR
exchanges the bytes; the Condition Code and every other register stay. -/
def Obligations.ByteRegisters : Prop :=
  ∀ (s : State) (r1 r2 : Reg),
    MovesValue (exec (.lbr r1 r2) s) s r1 ((0 : Byte) ++ (s.reg r2).extractLsb' 0 8) 2 ∧
    MovesValue (exec (.stbr r1 r2) s) s r2 ((s.reg r2).extractLsb' 8 8 ++ (s.reg r1).extractLsb' 0 8) 2 ∧
    MovesValue (exec (.exbr r1 r2) s) s r1 ((s.reg r2).extractLsb' 0 8 ++ (s.reg r2).extractLsb' 8 8) 2 ∧
    encode (.lbr r1 r2) = .bytes [0x93, field r1 ++ field r2] ∧
    encode (.stbr r1 r2) = .bytes [0x92, field r1 ++ field r2] ∧
    encode (.exbr r1 r2) = .bytes [0x94, field r1 ++ field r2]

/-- LB and STB at any byte address; the other bytes of memory stay. -/
def Obligations.ByteStorage : Prop :=
  ∀ (s : State) (r1 x2 : Reg) (a2 : Half), ByteReady s s.obank (s.sum a2 x2) →
    MovesValue (exec (.lb r1 x2 a2) s) s r1 ((0 : Byte) ++ s.byteAt s.obank (s.sum a2 x2)) 4 ∧
    ∃ t, exec (.stb r1 x2 a2) s = .next t ∧ t.byteAt s.obank (s.sum a2 x2) = (s.reg r1).extractLsb' 0 8 ∧
      t.cc = s.cc ∧ t.loc = s.loc + 4 ∧ Ordinary s t [] [(s.obank, s.sum a2 x2)]

/-! Shift and rotate -/

/-- The halfword shifts, in numbers; C is the last bit shifted out, V is reset. After a zero count C is free (D17, log
20). -/
def Obligations.HalfwordShifts : Prop :=
  ∀ (s : State) (r1 x2 : Reg) (n : BitVec 4) (a : Half),
    let v := s.reg r1
    let k := (s.sum a x2).toNat % 16
    ShiftsHalf (exec (.slls r1 n) s) s r1 n.toNat (BitVec.ofNat 16 (v.toNat * 2 ^ n.toNat)) (v.getMsbD (n.toNat - 1)) 2 ∧
    ShiftsHalf (exec (.slhl r1 x2 a) s) s r1 k (BitVec.ofNat 16 (v.toNat * 2 ^ k)) (v.getMsbD (k - 1)) 4 ∧
    ShiftsHalf (exec (.srls r1 n) s) s r1 n.toNat (BitVec.ofNat 16 (v.toNat / 2 ^ n.toNat))
      (v.getMsbD (16 - n.toNat)) 2 ∧
    ShiftsHalf (exec (.srhl r1 x2 a) s) s r1 k (BitVec.ofNat 16 (v.toNat / 2 ^ k)) (v.getMsbD (16 - k)) 4 ∧
    ShiftsHalf (exec (.slha r1 x2 a) s) s r1 k
      (BitVec.ofNat 16 (v.toNat / 32768 * 32768 + v.toNat * 2 ^ k % 32768)) (v.getMsbD k) 4 ∧
    ShiftsHalf (exec (.srha r1 x2 a) s) s r1 k (BitVec.ofInt 16 (v.toInt / 2 ^ k)) (v.getMsbD (16 - k)) 4

/-- The fullword shifts of a pair, after a zero count C free (D17, log 20), and the rotates, which reset C and V and
set G and L by the sign of the result (D44, log 22). An odd R1 is refused (log 9). -/
def Obligations.FullwordShiftsAndRotates : Prop :=
  ∀ (s : State) (r1 x2 : Reg) (a : Half),
    let v := s.pair r1
    let k := (s.sum a x2).toNat % 32
    (r1.val % 2 = 0 →
      ShiftsFull (exec (.sll r1 x2 a) s) s r1 k (BitVec.ofNat 32 (v.toNat * 2 ^ k)) (v.getMsbD (k - 1)) ∧
      ShiftsFull (exec (.srl r1 x2 a) s) s r1 k (BitVec.ofNat 32 (v.toNat / 2 ^ k)) (v.getMsbD (32 - k)) ∧
      ShiftsFull (exec (.sla r1 x2 a) s) s r1 k
        (BitVec.ofNat 32 (v.toNat / 2 ^ 31 * 2 ^ 31 + v.toNat * 2 ^ k % 2 ^ 31)) (v.getMsbD k) ∧
      ShiftsFull (exec (.sra r1 x2 a) s) s r1 k (BitVec.ofInt 32 (v.toInt / 2 ^ k)) (v.getMsbD (32 - k)) ∧
      ∀ p ∈ [(Instr.rll r1 x2 a, v.rotateLeft k), (Instr.rrl r1 x2 a, v.rotateRight k)],
        ∃ t, exec p.1 s = .next t ∧ t.pair r1 = p.2 ∧ flagC t = false ∧ flagV t = false ∧ SignFlags t p.2 ∧
          t.loc = s.loc + 4 ∧ Ordinary s t [r1, r1 + 1] []) ∧
    (r1.val % 2 = 1 → ∀ i ∈ [Instr.sll r1 x2 a, .srl r1 x2 a, .sla r1 x2 a, .sra r1 x2 a, .rll r1 x2 a,
        .rrl r1 x2 a],
      exec i s = .refused .oddPairRegister)

/-! Branch -/

/-- The conditional branches on the mask M1; the Condition Code, the program bank and everything else stay. -/
def Obligations.ConditionalBranches : Prop :=
  ∀ (s : State) (m1 n : BitVec 4) (r2 x2 : Reg) (a2 : Half),
    BranchesTo (exec (.btbs m1 n) s) s (m1 &&& s.cc ≠ 0) (s.loc - BitVec.ofNat 16 (2 * n.toNat)) 2 ∧
    BranchesTo (exec (.btfs m1 n) s) s (m1 &&& s.cc ≠ 0) (s.loc + BitVec.ofNat 16 (2 * n.toNat)) 2 ∧
    BranchesTo (exec (.btcr m1 r2) s) s (m1 &&& s.cc ≠ 0) (s.reg r2) 2 ∧
    BranchesTo (exec (.btc m1 x2 a2) s) s (m1 &&& s.cc ≠ 0) (s.sum a2 x2) 4 ∧
    BranchesTo (exec (.bfbs m1 n) s) s (m1 &&& s.cc = 0) (s.loc - BitVec.ofNat 16 (2 * n.toNat)) 2 ∧
    BranchesTo (exec (.bffs m1 n) s) s (m1 &&& s.cc = 0) (s.loc + BitVec.ofNat 16 (2 * n.toNat)) 2 ∧
    BranchesTo (exec (.bfcr m1 r2) s) s (m1 &&& s.cc = 0) (s.reg r2) 2 ∧
    BranchesTo (exec (.bfc m1 x2 a2) s) s (m1 &&& s.cc = 0) (s.sum a2 x2) 4

/-- BXH and BXLE: R1 receives R1 plus R1 + 1 in both cases and is compared with R1 + 2 as a magnitude (the model's
choice: D18, log 24); R1 above 13 is refused (log 9). -/
def Obligations.IndexBranches : Prop :=
  ∀ (s : State) (r1 x2 : Reg) (a2 : Half),
    let v := s.reg r1 + s.reg (r1 + 1)
    let limit := s.reg (r1 + 2)
    (r1.val ≤ 13 →
      (∃ t, exec (.bxh r1 x2 a2) s = .next t ∧ t.reg r1 = v ∧
        t.loc = (if limit.toNat < v.toNat then s.sum a2 x2 else s.loc + 4) ∧ t.cc = s.cc ∧ Ordinary s t [r1] []) ∧
      ∃ t, exec (.bxle r1 x2 a2) s = .next t ∧ t.reg r1 = v ∧
        t.loc = (if v.toNat ≤ limit.toNat then s.sum a2 x2 else s.loc + 4) ∧ t.cc = s.cc ∧ Ordinary s t [r1] []) ∧
    (13 < r1.val → exec (.bxh r1 x2 a2) s = .refused .registerBeyondMax ∧
      exec (.bxle r1 x2 a2) s = .refused .registerBeyondMax)

/-- BALR and BAL: the target is taken before R1 receives the address of the next instruction. -/
def Obligations.BranchAndLink : Prop :=
  ∀ (s : State) (r1 r2 x2 : Reg) (a2 : Half),
    (∃ t, exec (.balr r1 r2) s = .next t ∧ t.reg r1 = s.loc + 2 ∧ t.loc = s.reg r2 ∧ t.cc = s.cc ∧
      Ordinary s t [r1] []) ∧
    (∃ t, exec (.bal r1 x2 a2) s = .next t ∧ t.reg r1 = s.loc + 4 ∧ t.loc = s.sum a2 x2 ∧ t.cc = s.cc ∧
      Ordinary s t [r1] [])

/-! Floating point -/

/-- LER, LE and STE. The loaded word is the operand normalized; STE stores the word as it is. The registers' addresses
are parameters (log 14) and the word layout is the model's (log 15); a number that names no register is refused (log
9). -/
def Obligations.FloatingLoadStore : Prop :=
  ∀ (s : State) (r1 r2 x2 : Reg) (m : Half),
    (∀ a1 a2, FprReady s r1 a1 → FprReady s r2 a2 →
      Delivers (exec (.ler r1 r2) s) s a1 (fpLoadResult (fprWord s a2)) 2) ∧
    (∀ a1, FprReady s r1 a1 → FullReady s s.obank (s.sum m x2) →
      Delivers (exec (.le r1 x2 m) s) s a1 (fpLoadResult (s.fullAt s.obank (s.sum m x2))) 4 ∧
      ∃ t, exec (.ste r1 x2 m) s = .next t ∧ t.fullAt s.obank (s.sum m x2) = fprWord s a1 ∧ t.cc = s.cc ∧
        t.loc = s.loc + 4 ∧ Ordinary s t [] (fullBytes s.obank (s.sum m x2))) ∧
    (s.platform.fprAddress[r1.val] = none →
      ∀ i ∈ [Instr.ler r1 r2, .aer r1 r2, .ser r1 r2, .cer r1 r2, .mer r1 r2, .der r1 r2, .le r1 x2 m,
        .ste r1 x2 m, .ae r1 x2 m, .se r1 x2 m, .ce r1 x2 m, .me r1 x2 m, .de r1 x2 m],
        exec i s = .refused .fprInvalid) ∧
    (s.platform.fprAddress[r2.val] = none →
      ∀ i ∈ [Instr.ler r1 r2, .aer r1 r2, .ser r1 r2, .cer r1 r2, .mer r1 r2, .der r1 r2],
        exec i s = .refused .fprInvalid)

/-- A load delivers the value of the operand normalized: true zero for a zero fraction, true zero with V exactly when
the value is below the least normalized one, G and L by the sign. A result of load, add, subtract, multiply or
divide is normalized or true zero. Aligning a word keeps its value when the guard digits hold what is shifted out,
and else loses less than one unit of the common exponent. The word layout is the model's (log 15), as is the use of
the guard digits (log 16). -/
def Obligations.FloatingResultsNormalized : Prop :=
  (∀ w : Full, fpAccepted (fpLoadResult w).word = true ∧ IsLoad w (fpLoadResult w)) ∧
  (∀ (a b : Full) (guard : Nat) (rule : Rounding) (own : Nat → RoundStep) (own3 : Nat → Nat → Nat → RoundStep),
    fpAccepted a = true → fpAccepted b = true →
    fpAccepted (fpAdd guard (fpFields a) (fpFields b)).word = true ∧
    fpAccepted (fpAdd guard (fpFields a) (fpFields (b ^^^ 0x80000000))).word = true ∧
    fpAccepted (fpMul rule own (fpFields a) (fpFields b)).word = true ∧
    (b ≠ 0 → fpAccepted (fpDiv rule own3 (fpFields a) (fpFields b)).word = true)) ∧
  ∀ (w : Full) (guard e : Nat), (fpFields w).exponent ≤ e →
    (e ≤ (fpFields w).exponent + guard → alignedValue guard e w = fpValue w * 16 ^ guard) ∧
    (fpValue w * 16 ^ guard - alignedValue guard e w).natAbs < 16 ^ e

/-- Floating-point add and subtract: the aligned fractions are added or subtracted algebraically, the six leading digits
of the exact result are kept, V tells exponent overflow and underflow, G and L the sign. With the fault disabled the
instruction completes. With an operand that is not normalized it is refused (D38), the spec's default; on a platform of
the other policy it goes on with a free result, normalized or true zero (log 17). The word layout and the use of guard
digits are the model's (logs 15, 16). -/
def Obligations.FloatingAddSubtract : Prop :=
  ∀ (s : State) (r1 r2 x2 : Reg) (m : Half) (a1 : BitVec 18) (b : Full) (len : Half) (add sub : Instr),
    FprReady s r1 a1 →
    (add = .aer r1 r2 ∧ sub = .ser r1 r2 ∧ len = 2 ∧ ∃ a2, FprReady s r2 a2 ∧ b = fprWord s a2) ∨
      (add = .ae r1 x2 m ∧ sub = .se r1 x2 m ∧ len = 4 ∧ FullReady s s.obank (s.sum m x2) ∧
        b = s.fullAt s.obank (s.sum m x2)) →
    let a := fprWord s a1
    let g := s.platform.addGuardDigits
    let va := alignedValue g (commonExponent a b) a
    let vb := alignedValue g (commonExponent a b) b
    (fpAccepted a = true → fpAccepted b = true →
      Yields (exec add s) s a1 (IsSum g (va + vb)) len ∧ Yields (exec sub s) s a1 (IsSum g (va - vb)) len) ∧
    ((fpAccepted a && fpAccepted b) = false → s.platform.undefined = .goesOn →
      RunsOn (exec add s) s a1 len ∧ RunsOn (exec sub s) s a1 len) ∧
    ((fpAccepted a && fpAccepted b) = false → s.platform.undefined = .refused →
      exec add s = .refused .fpUnnormalized ∧ exec sub s = .refused .fpUnnormalized)

/-- Floating-point compare: C and L first operand lower, G higher, no register and no memory changes. With an operand
that is not normalized it is refused (D38), the spec's default; on a platform of the other policy only the Condition Code
is free (log 17). The word layout is the model's (log 15). -/
def Obligations.FloatingCompare : Prop :=
  ∀ (s : State) (r1 r2 x2 : Reg) (m : Half) (a1 : BitVec 18) (b : Full) (len : Half) (i : Instr),
    FprReady s r1 a1 →
    (i = .cer r1 r2 ∧ len = 2 ∧ ∃ a2, FprReady s r2 a2 ∧ b = fprWord s a2) ∨
      (i = .ce r1 x2 m ∧ len = 4 ∧ FullReady s s.obank (s.sum m x2) ∧ b = s.fullAt s.obank (s.sum m x2)) →
    let a := fprWord s a1
    ((fpAccepted a && fpAccepted b) = true ∨ s.platform.undefined = .goesOn →
      ∃ t, exec i s = .next t ∧ t.loc = s.loc + len ∧ Ordinary s t [] [] ∧
        (fpAccepted a = true → fpAccepted b = true →
          flagC t = decide (fpValue a < fpValue b) ∧ flagG t = decide (fpValue b < fpValue a) ∧
          flagL t = decide (fpValue a < fpValue b))) ∧
    ((fpAccepted a && fpAccepted b) = false → s.platform.undefined = .refused →
      exec i s = .refused .fpUnnormalized)

/-- Floating-point multiply and divide: the exponents are tested first, then the exact product or quotient is rounded
to six digits, V tells exponent overflow and underflow, G and L the sign. A zero factor or dividend gives true zero
before the exponents are tested (D42, log 39). Division by true zero leaves the register alone and sets C and V. With
the fault disabled the instruction completes. The rounding is a parameter (D22, log 16), the word layout the model's
(log 15). With an operand that is not normalized the instruction is refused (D38), the spec's default; on a platform of
the other policy it goes on with a free result, normalized or true zero (log 17). A quotient that overflows or underflows
resets C (D45, log 39). -/
def Obligations.FloatingMultiplyDivide : Prop :=
  ∀ (s : State) (r1 r2 x2 : Reg) (m : Half) (a1 : BitVec 18) (b : Full) (len : Half) (mul div : Instr),
    FprReady s r1 a1 →
    (mul = .mer r1 r2 ∧ div = .der r1 r2 ∧ len = 2 ∧ ∃ a2, FprReady s r2 a2 ∧ b = fprWord s a2) ∨
      (mul = .me r1 x2 m ∧ div = .de r1 x2 m ∧ len = 4 ∧ FullReady s s.obank (s.sum m x2) ∧
        b = s.fullAt s.obank (s.sum m x2)) →
    let a := fprWord s a1
    (fpAccepted a = true → fpAccepted b = true →
      Yields (exec mul s) s a1 (IsProduct s.platform.mulRound a b) len ∧
      (b ≠ 0 → Yields (exec div s) s a1 (IsQuotient s.platform.divRound a b) len ∧
        ∃ u x, IsQuotient s.platform.divRound a b x ∧ Delivered s u a1 x ∧ u.loc = s.loc ∧
          (x.v = true → flagC u = false) ∧
          exec div s = if x.v && s.fpe then raise .floatingPointFault len u else .next (u.advance len)) ∧
      (b = 0 → ∃ u, u.cc = 12 ∧ u.loc = s.loc ∧ Ordinary s u [] [] ∧
        exec div s = if s.fpe then raise .floatingPointFault len u else .next (u.advance len))) ∧
    ((fpAccepted a && fpAccepted b) = false → s.platform.undefined = .goesOn →
      RunsOn (exec mul s) s a1 len ∧ RunsOn (exec div s) s a1 len) ∧
    ((fpAccepted a && fpAccepted b) = false → s.platform.undefined = .refused →
      exec mul s = .refused .fpUnnormalized ∧ exec div s = .refused .fpUnnormalized)

/-- Raising an interrupt exchanges the Program Status Word and changes nothing else. The vector locations and the saved
location counter are parameters (logs 11, 12). So does SINT in Supervisor Mode, with the presented device number, and so
does a step when a device interrupt is due, with the first requesting device, on a platform whose device service is
such an exchange; a platform without one refuses a due device interrupt before the fetch (D36, log 34). -/
def Obligations.RaiseExchangesPsw : Prop :=
  (∀ (s : State) (k : Interrupt) (len : Half), VectorReady s k → Interrupts (raise k len s) s k len) ∧
  (∀ (s : State) (x2 : Reg) (i2 : Half), s.prot = false → ServiceReady s ((s.sum i2 x2).extractLsb' 0 8) →
    ∃ t, exec (.sint 0 x2 i2) s = .next t ∧ Serves s t ((s.sum i2 x2).extractLsb' 0 8) (s.loc + 4)) ∧
  ∀ (s : State) (d : Byte) (rest : List Byte), s.active = .controller → s.ps ∈ s.platform.interruptStatuses →
    s.pending = d :: rest →
    (ServiceReady s d → ∃ t, step s = .next t ∧ Serves s t d s.loc) ∧
    (s.platform.service = .notSpecified → step s = .refused .deviceInterruptNotSpecified)

/-! System control -/

/-- LPSW in Supervisor Mode loads all 32 bits of the PSW from the operand bank in force (D25, log 26) and changes
nothing else; a nonzero R1 field is refused (log 9). -/
def Obligations.LoadPsw : Prop :=
  ∀ (s : State) (r1 x2 : Reg) (a2 : Half), s.prot = false →
    (r1 = 0 → FullReady s s.obank (s.sum a2 x2) →
      ∃ t, exec (.lpsw r1 x2 a2) s = .next t ∧ t.psw = s.fullAt s.obank (s.sum a2 x2) ∧ Frame s t [] [] ∧
        DevicesSame s t) ∧
    (r1 ≠ 0 → exec (.lpsw r1 x2 a2) s = .refused .r1MustBeZero)

/-- EPOR, in either mode (D26, log 27): only bits 10:11 of the Program Status change, to those of R1, and R1 receives
the whole former Program Status; R2 is ignored. -/
def Obligations.ExchangeOperandBank : Prop :=
  ∀ (s : State) (r1 r2 : Reg),
    ∃ t, exec (.epor r1 r2) s = .next t ∧ t.reg r1 = s.ps ∧ t.obank = (s.reg r1).extractLsb' 4 2 ∧
      t.control.extractLsb' 2 10 = s.control.extractLsb' 2 10 ∧ t.cc = s.cc ∧ t.loc = s.loc + 2 ∧
      Frame s t [r1] [] ∧ DevicesSame s t ∧ encode (.epor r1 r2) = .bytes [0x2E, field r1 ++ field r2]

/-- EPPR and EPSR. The location counter EPPR saves is the model's choice (D8, log 12); EPSR with R1 = R2 leaves the
Program Status as it was (log 56); R1 = 15 is refused for EPPR (log 9). -/
def Obligations.ExchangeProgramStatus : Prop :=
  ∀ (s : State) (r1 r2 : Reg),
    (r1.val ≤ 14 →
      ∃ t, exec (.eppr r1 r2) s = .next t ∧ t.reg r1 = s.ps ∧ t.reg (r1 + 1) = s.loc + 2 ∧
        t.control.extractLsb' 0 4 = (s.reg r1).extractLsb' 4 4 ∧
        t.control.extractLsb' 4 8 = s.control.extractLsb' 4 8 ∧ t.loc = s.reg (r1 + 1) ∧ t.cc = s.cc ∧
        Frame s t [r1, r1 + 1] [] ∧ DevicesSame s t) ∧
    (r1.val = 15 → exec (.eppr r1 r2) s = .refused .pairBeyondR15) ∧
    (s.prot = false →
      ∃ t, exec (.epsr r1 r2) s = .next t ∧ t.reg r1 = s.ps ∧ t.ps = (if r1 = r2 then s.ps else s.reg r2) ∧
        t.loc = s.loc + 2 ∧ Frame s t [r1] [] ∧ DevicesSame s t)

/-- SVC, in either mode (D26, log 27): the parameter pointer, the Old PSW with the address of the next instruction (D8,
log 12), and the new Program Status and location counter of the call type, all in bank 0 (D3, log 7). -/
def Obligations.SupervisorCall : Prop :=
  ∀ (s : State) (r1 x2 : Reg) (i2 : Half), HalfReady s 0 0x0094 → FullReady s 0 0x0096 → HalfReady s 0 0x009A →
    HalfReady s 0 (0x009C + BitVec.ofNat 16 (2 * r1.val)) →
    ∃ t, exec (.svc r1 x2 i2) s = .next t ∧ t.halfAt 0 0x0094 = s.sum i2 x2 ∧
      t.fullAt 0 0x0096 = s.ps ++ (s.loc + 4) ∧ t.ps = s.halfAt 0 0x009A ∧
      t.loc = s.halfAt 0 (0x009C + BitVec.ofNat 16 (2 * r1.val)) ∧ Frame s t [] (byteRange 0 0x0094 6) ∧
      DevicesSame s t

/-- The 27 operations of which the source gives only a code and a name are refused (D23, log 36). So is SINT in
Supervisor Mode on a platform without a device service, the spec's default (log 34); a nonzero R1 field of it is
refused before that (log 9). -/
def Obligations.StopsByName : Prop :=
  ∀ (s : State) (r1 r2 x2 : Reg) (a : Half),
    (∀ i ∈ [Instr.lcnhr r1 r2, .lavr r1 r2, .lchr r1 r2, .cldpr r1 r2, .ldpr r1 r2, .cdpr r1 r2, .adpr r1 r2,
        .sdpr r1 r2, .mdpr r1 r2, .ddpr r1 r2, .stdp r1 x2 a, .lcnh r1 x2 a, .lav r1 x2 a, .lch r1 x2 a,
        .cldp r1 x2 a, .ldp r1 x2 a, .cdp r1 x2 a, .adp r1 x2 a, .sdp r1 x2 a, .mdp r1 x2 a, .ddp r1 x2 a,
        .resb r1 x2 a, .sesb r1 x2 a, .srql r1 x2 a, .slql r1 x2 a, .srqa r1 x2 a, .slqa r1 x2 a],
      exec i s = .refused .listedOnly) ∧
    (s.prot = false →
      (r1 = 0 → s.platform.service = .notSpecified → exec (.sint r1 x2 a) s = .refused .sintNotSpecified) ∧
      (r1 ≠ 0 → exec (.sint r1 x2 a) s = .refused .r1MustBeZero))

/-- A halfword or fullword operand, or a list, at an odd address faults, and one that does not find installed memory
faults, before anything changes (D4, D31, logs 8, 13); a byte operand may be at any address. So does a step whose location
counter is odd (D27, log 8). The operand address is that of log 5. -/
def Obligations.OperandFaults : Prop :=
  (∀ (s : State) (r1 x2 : Reg) (a2 : Half), s.prot = false →
    let e := s.sum a2 x2
    let b := s.obank
    (∀ p ∈ [(b, Instr.lh r1 x2 a2), (b, .sth r1 x2 a2), (b, .ah r1 x2 a2), (b, .ahm r1 x2 a2), (b, .ach r1 x2 a2),
        (b, .sh r1 x2 a2), (b, .sch r1 x2 a2), (b, .nh r1 x2 a2), (b, .oh r1 x2 a2), (b, .xh r1 x2 a2),
        (b, .clh r1 x2 a2), (b, .ch r1 x2 a2), (b, .wh r1 x2 a2), (0, .lh0 r1 x2 a2), (1, .lh1 r1 x2 a2),
        (2, .lh2 r1 x2 a2), (3, .lh3 r1 x2 a2), (0, .sth0 r1 x2 a2), (1, .sth1 r1 x2 a2), (2, .sth2 r1 x2 a2),
        (3, .sth3 r1 x2 a2)],
      Needs (exec p.2 s) e (HalfReady s p.1 e)) ∧
    (r1.val % 2 = 0 → ∀ i ∈ [Instr.mh r1 x2 a2, .mhu r1 x2 a2, .dh r1 x2 a2], Needs (exec i s) e (HalfReady s b e)) ∧
    ((answerTo s).timeout = false → Needs (exec (.rh r1 x2 a2) s) e (HalfReady s b e)) ∧
    (∀ i ∈ [Instr.lm r1 x2 a2, .stm r1 x2 a2],
      Needs (exec i s) e (∀ k < 16 - r1.val, HalfReady s b (e + BitVec.ofNat 16 (2 * k)))) ∧
    (∀ i ∈ [Instr.rb r1 x2 a2, .wb r1 x2 a2], Needs (exec i s) e (FullReady s b e)) ∧
    Needs (exec (.lpsw 0 x2 a2) s) e (FullReady s b e) ∧
    (∀ a1, FprReady s r1 a1 →
      ∀ i ∈ [Instr.le r1 x2 a2, .ste r1 x2 a2, .ae r1 x2 a2, .se r1 x2 a2, .ce r1 x2 a2, .me r1 x2 a2, .de r1 x2 a2],
        Needs (exec i s) e (FullReady s b e)) ∧
    (∀ i ∈ [Instr.atl r1 x2 a2, .abl r1 x2 a2, .rtl r1 x2 a2, .rbl r1 x2 a2],
      Needs (exec i s) e (∀ k < 4, ByteReady s b (e + BitVec.ofNat 16 k))) ∧
    (¬ByteReady s b e →
      (∀ i ∈ [Instr.lb r1 x2 a2, .stb r1 x2 a2, .clb r1 x2 a2, .ai r1 x2 a2, .ss r1 x2 a2, .oc r1 x2 a2, .wd r1 x2 a2],
        exec i s = .fault .noMemory) ∧
      ((answerTo s).timeout = false → exec (.rd r1 x2 a2) s = .fault .noMemory))) ∧
  ∀ s : State, s.active = .controller → s.deviceInterruptDue = false → s.loc.getLsbD 0 = true →
    step s = .fault .oddLocation

/-! Input, output and lists -/

/-- AIR, AI, SSR and SS in Supervisor Mode: the status byte to its destination and its right-most four bits to the
Condition Code. With no device requesting an interrupt AIR and AI time out; otherwise, unless the answer times out, R1
receives the number of a requesting device, the answer's where that is one (log 33), which no longer requests one. On a
time-out R1 is as before or receives the answer's number, and the requests stay (log 33). The device number is bits 8:15
of R1 whatever bits 0:7 hold (D29, log 29), and the oracle's answers are a queue (log 30). -/
def Obligations.AcknowledgeAndSense : Prop :=
  ∀ (s : State) (r1 r2 x2 : Reg) (a2 : Half), s.prot = false →
    let a := answerTo s
    let st := deliveredStatus a
    let timeout := a.timeout || s.pending.isEmpty
    let ackStatus := deliveredStatus { a with timeout := timeout }
    let number := fun (t : State) (written : Bool) => ∃ d : Byte,
      (timeout = false → d ∈ s.pending ∧ (a.device ∈ s.pending → d = a.device) ∧ t.pending = s.pending.erase d ∧
        (written = true → t.reg r1 = (0 : Byte) ++ d)) ∧
      (timeout = true → t.pending = s.pending ∧
        (written = true → t.reg r1 = s.reg r1 ∨ t.reg r1 = (0 : Byte) ++ a.device))
    (∃ t, exec (.air r1 r2) s = .next t ∧ number t (r1 != r2) ∧ t.reg r2 = (0 : Byte) ++ ackStatus ∧
      t.cc = ackStatus.extractLsb' 0 4 ∧ t.loc = s.loc + 2 ∧ Frame s t [r1, r2] [] ∧ Asked s t .ack) ∧
    (∃ t, exec (.ssr r1 r2) s = .next t ∧ t.reg r2 = (0 : Byte) ++ st ∧ t.cc = st.extractLsb' 0 4 ∧
      t.pending = s.pending ∧ t.loc = s.loc + 2 ∧ Frame s t [r2] [] ∧
      Asked s t (.sense ((s.reg r1).extractLsb' 0 8))) ∧
    (ByteReady s s.obank (s.sum a2 x2) →
      (∃ t, exec (.ai r1 x2 a2) s = .next t ∧ number t true ∧ t.byteAt s.obank (s.sum a2 x2) = ackStatus ∧
        t.cc = ackStatus.extractLsb' 0 4 ∧ t.loc = s.loc + 4 ∧ Frame s t [r1] [(s.obank, s.sum a2 x2)] ∧ Asked s t .ack) ∧
      ∃ t, exec (.ss r1 x2 a2) s = .next t ∧ t.byteAt s.obank (s.sum a2 x2) = st ∧
        t.cc = st.extractLsb' 0 4 ∧ t.pending = s.pending ∧ t.loc = s.loc + 4 ∧
        Frame s t [] [(s.obank, s.sum a2 x2)] ∧ Asked s t (.sense ((s.reg r1).extractLsb' 0 8)))

/-- The data reads RDR, RHR, RD and RH in Supervisor Mode: the data to its destination, V on a time-out, which leaves
the destination alone; C, G and L are free (D29, logs 29, 30). -/
def Obligations.DataReads : Prop :=
  ∀ (s : State) (r1 r2 x2 : Reg) (a2 : Half), s.prot = false →
    let a := answerTo s
    let d := (s.reg r1).extractLsb' 0 8
    (∃ t, exec (.rdr r1 r2) s = .next t ∧ t.reg r2 = (if a.timeout then s.reg r2 else (0 : Byte) ++ a.byte) ∧
      flagV t = a.timeout ∧ t.loc = s.loc + 2 ∧ t.pending = s.pending ∧ Frame s t [r2] [] ∧
      Asked s t (.read8 d)) ∧
    (∃ t, exec (.rhr r1 r2) s = .next t ∧ t.reg r2 = (if a.timeout then s.reg r2 else a.half) ∧
      flagV t = a.timeout ∧ t.loc = s.loc + 2 ∧ t.pending = s.pending ∧ Frame s t [r2] [] ∧
      Asked s t (.read16 d)) ∧
    (ByteReady s s.obank (s.sum a2 x2) →
      ∃ t, exec (.rd r1 x2 a2) s = .next t ∧
        t.byteAt s.obank (s.sum a2 x2) = (if a.timeout then s.byteAt s.obank (s.sum a2 x2) else a.byte) ∧
        flagV t = a.timeout ∧ t.loc = s.loc + 4 ∧ t.pending = s.pending ∧
        Frame s t [] [(s.obank, s.sum a2 x2)] ∧ Asked s t (.read8 d)) ∧
    (HalfReady s s.obank (s.sum a2 x2) →
      ∃ t, exec (.rh r1 x2 a2) s = .next t ∧
        t.halfAt s.obank (s.sum a2 x2) = (if a.timeout then s.halfAt s.obank (s.sum a2 x2) else a.half) ∧
        flagV t = a.timeout ∧ t.loc = s.loc + 4 ∧ t.pending = s.pending ∧
        Frame s t [] (halfBytes s.obank (s.sum a2 x2)) ∧ Asked s t (.read16 d))

/-- The commands and data writes OCR, WDR, WHR, OC, WD and WH in Supervisor Mode: the request goes out, V on a time-out
or a command that cannot be completed; no register and no memory changes; C, G and L are free (D29, logs 29, 30). -/
def Obligations.CommandsAndDataWrites : Prop :=
  ∀ (s : State) (r1 r2 x2 : Reg) (a2 : Half), s.prot = false →
    let a := answerTo s
    let d := (s.reg r1).extractLsb' 0 8
    let b := s.byteAt s.obank (s.sum a2 x2)
    let sends := fun (i : Instr) (q : DeviceRequest) (v : Bool) (len : Half) =>
      ∃ t, exec i s = .next t ∧ flagV t = v ∧ t.loc = s.loc + len ∧ t.pending = s.pending ∧ Frame s t [] [] ∧
        Asked s t q
    sends (.ocr r1 r2) (.command d ((s.reg r2).extractLsb' 0 8)) (a.timeout || a.fail) 2 ∧
    sends (.wdr r1 r2) (.write8 d ((s.reg r2).extractLsb' 0 8)) a.timeout 2 ∧
    sends (.whr r1 r2) (.write16 d (s.reg r2)) a.timeout 2 ∧
    (ByteReady s s.obank (s.sum a2 x2) →
      sends (.oc r1 x2 a2) (.command d b) (a.timeout || a.fail) 4 ∧
      sends (.wd r1 x2 a2) (.write8 d b) a.timeout 4) ∧
    (HalfReady s s.obank (s.sum a2 x2) →
      sends (.wh r1 x2 a2) (.write16 d (s.halfAt s.obank (s.sum a2 x2))) a.timeout 4)

/-- Block reads in Supervisor Mode, from limits `start` and `stop`: RBR in R2 and R2 + 1, RB in memory. Up to
stop - start + 1 bytes are stored from `start` on; a start above the stop transfers nothing with a zero condition (D30,
logs 31, 32). The device number ignores bits 0:7 of R1 (D29, log 29), and the answer is the queue's (log 30). R2 = 15 is
refused for RBR (log 9). -/
def Obligations.BlockReads : Prop :=
  ∀ (s : State) (r1 r2 x2 : Reg) (a2 start stop len : Half) (i : Instr), s.prot = false →
    (exec (.rbr r1 15) s = .refused .registerBeyondMax) ∧
    ((i = .rbr r1 r2 ∧ r2.val ≤ 14 ∧ len = 2 ∧ start = s.reg r2 ∧ stop = s.reg (r2 + 1)) ∨
      (i = .rb r1 x2 a2 ∧ len = 4 ∧ HalfReady s s.obank (s.sum a2 x2) ∧ HalfReady s s.obank (s.sum a2 x2 + 2) ∧
        start = s.halfAt s.obank (s.sum a2 x2) ∧ stop = s.halfAt s.obank (s.sum a2 x2 + 2)) →
    let n := stop.toNat + 1 - start.toNat
    let a := answerTo s
    (n = 0 → ∃ t, exec i s = .next t ∧ t.cc = 0 ∧ t.loc = s.loc + len ∧ Ordinary s t [] []) ∧
    (0 < n → (∀ k < n, ByteReady s s.obank (start + BitVec.ofNat 16 k)) →
      ∃ t, exec i s = .next t ∧
        (∀ k < min n a.bytes.length,
          some (t.byteAt s.obank (start + BitVec.ofNat 16 k)) = a.bytes[k]?) ∧
        BlockCondition t a (n ≤ a.bytes.length) ∧ t.loc = s.loc + len ∧ t.pending = s.pending ∧
        Frame s t [] (byteRange s.obank start (min n a.bytes.length)) ∧
        Asked s t (.blockIn ((s.reg r1).extractLsb' 0 8) n)))

/-- Block writes in Supervisor Mode: the bytes from `start` to `stop` go out in order (D30, logs 31, 32). The device
number ignores bits 0:7 of R1 (D29, log 29), and the answer is the queue's (log 30). R2 = 15 is refused for WBR (log
9). -/
def Obligations.BlockWrites : Prop :=
  ∀ (s : State) (r1 r2 x2 : Reg) (a2 start stop len : Half) (i : Instr), s.prot = false →
    (exec (.wbr r1 15) s = .refused .registerBeyondMax) ∧
    ((i = .wbr r1 r2 ∧ r2.val ≤ 14 ∧ len = 2 ∧ start = s.reg r2 ∧ stop = s.reg (r2 + 1)) ∨
      (i = .wb r1 x2 a2 ∧ len = 4 ∧ HalfReady s s.obank (s.sum a2 x2) ∧ HalfReady s s.obank (s.sum a2 x2 + 2) ∧
        start = s.halfAt s.obank (s.sum a2 x2) ∧ stop = s.halfAt s.obank (s.sum a2 x2 + 2)) →
    let n := stop.toNat + 1 - start.toNat
    let a := answerTo s
    (n = 0 → ∃ t, exec i s = .next t ∧ t.cc = 0 ∧ t.loc = s.loc + len ∧ Ordinary s t [] []) ∧
    (0 < n → (∀ k < n, ByteReady s s.obank (start + BitVec.ofNat 16 k)) →
      ∃ t, exec i s = .next t ∧ BlockCondition t a (n ≤ a.accepted) ∧ t.loc = s.loc + len ∧
        t.pending = s.pending ∧ Frame s t [] [] ∧
        Asked s t (.blockOut ((s.reg r1).extractLsb' 0 8)
          ((List.range n).map fun k => s.byteAt s.obank (start + BitVec.ofNat 16 k)))))

/-- AL in Supervisor Mode: the device at X'78' and the command at X'79' of bank 0, the data from X'80' up to the second
operand address, leading zero bytes ignored (D30, logs 31, 32); a nonzero R1 field is refused (log 9). -/
def Obligations.Autoload : Prop :=
  ∀ (s : State) (r1 x2 : Reg) (a2 : Half), s.prot = false →
    (r1 ≠ 0 → exec (.al r1 x2 a2) s = .refused .r1MustBeZero) ∧
    (r1 = 0 → ByteReady s 0 0x0078 → ByteReady s 0 0x0079 →
      let n := if (s.sum a2 x2).toNat < 0x80 then 1 else (s.sum a2 x2).toNat - 0x7F
      let a := answerTo s
      let data := a.bytes.dropWhile (· == 0)
      (∀ k < n, ByteReady s 0 (0x80 + BitVec.ofNat 16 k)) →
      ∃ t, exec (.al r1 x2 a2) s = .next t ∧
        (∀ k < min n data.length, some (t.byteAt 0 (0x80 + BitVec.ofNat 16 k)) = data[k]?) ∧
        BlockCondition t a (n ≤ data.length) ∧ t.loc = s.loc + 4 ∧ t.pending = s.pending ∧
        Frame s t [] (byteRange 0 0x80 (min n data.length)) ∧
        Asked s t (.autoload (s.byteAt 0 0x0078) (s.byteAt 0 0x0079) n))

/-- ATL and ABL: a full list only sets V; else the element goes into the slot below the top or at the bottom, and the
tally and that pointer follow. Inconsistent parameters are refused and an odd list address faults (D31, log 35). -/
def Obligations.ListAdds : Prop :=
  ∀ (s : State) (r1 x2 : Reg) (a2 : Half),
    let a := s.sum a2 x2
    let h := listHead s a
    let b := s.obank
    let down := ringDown h.slots h.top
    let up := ringUp h.slots h.bottom
    (ListReady s a → h.used = h.slots → ∀ i ∈ [Instr.atl r1 x2 a2, .abl r1 x2 a2],
      ∃ t, exec i s = .next t ∧ t.cc = 4 ∧ t.loc = s.loc + 4 ∧ Ordinary s t [] []) ∧
    (ListReady s a → h.used ≠ h.slots → HalfReady s b (slotAt a down) →
      ∃ t, exec (.atl r1 x2 a2) s = .next t ∧ t.halfAt b (slotAt a down) = s.reg r1 ∧
        listHead t a = { h with used := h.used + 1, top := down } ∧ t.cc = 0 ∧ t.loc = s.loc + 4 ∧
        Ordinary s t [] (halfBytes b (slotAt a down) ++ [(b, a + 1), (b, a + 2)])) ∧
    (ListReady s a → h.used ≠ h.slots → HalfReady s b (slotAt a h.bottom) →
      ∃ t, exec (.abl r1 x2 a2) s = .next t ∧ t.halfAt b (slotAt a h.bottom) = s.reg r1 ∧
        listHead t a = { h with used := h.used + 1, bottom := up } ∧ t.cc = 0 ∧ t.loc = s.loc + 4 ∧
        Ordinary s t [] (halfBytes b (slotAt a h.bottom) ++ [(b, a + 1), (b, a + 3)])) ∧
    (∀ i ∈ [Instr.atl r1 x2 a2, .abl r1 x2 a2, .rtl r1 x2 a2, .rbl r1 x2 a2],
      (a.getLsbD 0 = true → exec i s = .fault .misaligned) ∧
      (a.getLsbD 0 = false → (∀ k < 4, ByteReady s b (a + BitVec.ofNat 16 k)) → h.consistent = false →
        exec i s = .refused .listInconsistent))

/-- RTL and RBL: an empty list only sets V; else R1 receives the top slot or the slot below the bottom, the tally and
that pointer follow, and G tells that the list is not yet empty. -/
def Obligations.ListRemoves : Prop :=
  ∀ (s : State) (r1 x2 : Reg) (a2 : Half),
    let a := s.sum a2 x2
    let h := listHead s a
    let b := s.obank
    let down := ringDown h.slots h.bottom
    let up := ringUp h.slots h.top
    (ListReady s a → h.used = 0 → ∀ i ∈ [Instr.rtl r1 x2 a2, .rbl r1 x2 a2],
      ∃ t, exec i s = .next t ∧ t.cc = 4 ∧ t.loc = s.loc + 4 ∧ Ordinary s t [] []) ∧
    (ListReady s a → h.used ≠ 0 → HalfReady s b (slotAt a h.top) →
      ∃ t, exec (.rtl r1 x2 a2) s = .next t ∧ t.reg r1 = s.halfAt b (slotAt a h.top) ∧
        listHead t a = { h with used := h.used - 1, top := up } ∧ t.cc = (if h.used = 1 then 0 else 2) ∧
        t.loc = s.loc + 4 ∧ Ordinary s t [r1] [(b, a + 1), (b, a + 2)]) ∧
    (ListReady s a → h.used ≠ 0 → HalfReady s b (slotAt a down) →
      ∃ t, exec (.rbl r1 x2 a2) s = .next t ∧ t.reg r1 = s.halfAt b (slotAt a down) ∧
        listHead t a = { h with used := h.used - 1, bottom := down } ∧ t.cc = (if h.used = 1 then 0 else 2) ∧
        t.loc = s.loc + 4 ∧ Ordinary s t [r1] [(b, a + 1), (b, a + 3)])

/-! The annex machine. The address of every memory operand is free (49 R454; log 43), its registers' widths are the
model's (log 45), and it stands beside the HMP-1116 (log 41). -/

/-- The transfers. -/
def Obligations.CentralTransfers : Prop :=
  ∀ (s : State) (r : BitVec 4) (y : BitVec 9),
    let c := s.central
    let a := Config.centralLocation s.draws r y
    (∀ p ∈ [(Instr.tru r y, true), (Instr.trn r y, c.acc.getMsbD 0),
        (Instr.trz r y, c.acc.extractLsb' 0 17 == 0), (Instr.tre r y, c.compareHigh && c.compareLow),
        (Instr.trh r y, c.compareHigh && !c.compareLow), (Instr.trl r y, !c.compareHigh && c.compareLow)],
      ∃ t, exec p.1 s = .next t ∧ OnlyCentral s t ∧ t.central = { c with pc := if p.2 then a else c.pc + 1 }) ∧
    (∃ t, exec (.tof r y) s = .next t ∧ OnlyCentral s t ∧
      t.central = { c with pc := if c.overflow then a else c.pc + 1, overflow := false }) ∧
    ∃ t, exec (.tsx r y) s = .next t ∧ OnlyCentral s t ∧
      t.central = { c with pc := a, index := c.index.set 11 (c.pc + 1) }

/-- CMA and CML: high alone, low alone, or both when the 18 bits are the same. CMA compares values, +0 above -0; CML all
18 bits as one number; where the word stands is free (log 43). The operation codes of CMA and CML are in the first five
bits, and PIA and PAI have their X in bits 9 to 11 (layouts: log 42). PIA places the thirteen sense indicators in the
accumulator and clears its other bits; PAI sets or resets all of them but F1, F3 and F7. That the thirteen are F1 to
F10, the compare indicators and overflow is the spec's inference; which bit holds which is free, one to one (log 47).
Only CMA, CML and PAI alter the compare indicators. -/
def Obligations.CentralCompares : Prop :=
  (∀ (s : State) (r : BitVec 4) (y : BitVec 9),
    let c := s.central
    let m := c.word (Config.centralLocation s.draws r y)
    (∃ t, exec (.cma r y) s = .next t ∧ OnlyCentral s t ∧
      t.central = { c with pc := c.pc + 1, compareHigh := t.central.compareHigh, compareLow := t.central.compareLow } ∧
      (t.central.compareHigh && t.central.compareLow) = decide (c.acc = m) ∧
      (centralValue m < centralValue c.acc → t.central.compareHigh = true ∧ t.central.compareLow = false) ∧
      (centralValue c.acc < centralValue m → t.central.compareHigh = false ∧ t.central.compareLow = true) ∧
      (c.acc = 0 → m = 0x20000 → t.central.compareHigh = true ∧ t.central.compareLow = false) ∧
      (c.acc = 0x20000 → m = 0 → t.central.compareHigh = false ∧ t.central.compareLow = true)) ∧
    (∃ t, exec (.cml r y) s = .next t ∧ OnlyCentral s t ∧
      t.central = { c with pc := c.pc + 1, compareHigh := decide (m ≤ c.acc), compareLow := decide (c.acc ≤ m) }) ∧
    (∃ rest : BitVec 13, encode (.cma r y) = .word (0b11000#5 ++ rest)) ∧
    ∃ rest : BitVec 13, encode (.cml r y) = .word (0b11001#5 ++ rest)) ∧
  (∀ s : State,
    let c := s.central
    (∃ t, exec .pia s = .next t ∧ OnlyCentral s t ∧
      t.central = { c with pc := c.pc + 1, acc := t.central.acc } ∧
      (∀ j : Fin 10, senseBit t.central.acc (j.castLE (by decide)) = c.indicator j) ∧
      senseBit t.central.acc 10 = c.compareHigh ∧ senseBit t.central.acc 11 = c.compareLow ∧
      senseBit t.central.acc 12 = c.overflow ∧ t.central.acc.extractLsb' 13 5 = 0) ∧
    (∃ t, exec .pai s = .next t ∧ OnlyCentral s t ∧
      t.central = { c with
        pc := c.pc + 1, indicators := t.central.indicators, compareHigh := senseBit c.acc 10
        compareLow := senseBit c.acc 11, overflow := senseBit c.acc 12 } ∧
      ∀ j : Fin 10, t.central.indicator j =
        if j = 0 ∨ j = 2 ∨ j = 6 then c.indicator j else senseBit c.acc (j.castLE (by decide))) ∧
    encode .pia = .word 0b01100_0000_110_000000 ∧ encode .pai = .word 0b01100_0000_111_000000) ∧
  ∀ (s t : State) (i : Instr), exec i s = .next t →
    t.central.compareHigh ≠ s.central.compareHigh ∨ t.central.compareLow ≠ s.central.compareLow →
    (∃ r y, i = .cma r y) ∨ (∃ r y, i = .cml r y) ∨ i = .pai

/-- LCK and ULK in both configurations. The value a reset leaves is free (log 48); a single processor with its switch
off is refused (log 48). -/
def Obligations.CentralLock : Prop :=
  ∀ (s : State) (n : BitVec 10),
    let c := s.central
    (c.dual = true → n = c.otherLock →
      exec (.lck n) s = .next (s.setCentral { c with pc := c.pc + 1, lock := Config.centralLockReset })) ∧
    (c.dual = true → n ≠ c.otherLock →
      exec (.lck n) s = .next (s.setCentral { c with pc := c.pc + 2, lock := n })) ∧
    (c.dual = false → c.ignoreLockSwitch = true →
      exec (.lck n) s = .next (s.setCentral { c with pc := c.pc + 1 })) ∧
    (c.dual = false → c.ignoreLockSwitch = false → exec (.lck n) s = .refused .centralLockNotSpecified) ∧
    exec .ulk s = .next (s.setCentral
      { c with pc := c.pc + 1, lock := if c.dual then Config.centralLockReset else c.lock })

/-- ADD and SUB: the accumulator receives the exact sum when it fits, a zero keeping its sign; else the Overflow
Indicator is turned on and the accumulator is free (log 46). -/
def Obligations.CentralAddSubtract : Prop :=
  ∀ (s : State) (r : BitVec 4) (y : BitVec 9),
    let c := s.central
    let m := c.word (Config.centralLocation s.draws r y)
    ∀ p ∈ [(Instr.add r y, centralValue c.acc + centralValue m), (Instr.sub r y, centralValue c.acc - centralValue m)],
      ∃ t, exec p.1 s = .next t ∧ OnlyCentral s t ∧
        t.central = { c with
          pc := c.pc + 1, acc := t.central.acc
          overflow := c.overflow || decide (p.2 < -131071 ∨ 131071 < p.2) } ∧
        (-131071 ≤ p.2 → p.2 ≤ 131071 → centralValue t.central.acc = p.2 ∧
          (p.2 = 0 → t.central.acc.getMsbD 0 = c.acc.getMsbD 0))

/-- MLY gives the exact double-length product with its sign in both words; DIV gives quotient and remainder, or turns
the divide check on when the divisor is not greater in magnitude than the accumulator. -/
def Obligations.CentralMultiplyDivide : Prop :=
  ∀ (s : State) (r : BitVec 4) (y : BitVec 9),
    let c := s.central
    let m := c.word (Config.centralLocation s.draws r y)
    (∃ t, exec (.mly r y) s = .next t ∧ OnlyCentral s t ∧
      t.central = { c with pc := c.pc + 1, acc := t.central.acc, q := t.central.q } ∧
      doubleMag t.central.acc t.central.q = mag c.acc * mag m ∧
      sgn t.central.acc = (sgn c.acc ^^ sgn m) ∧ sgn t.central.q = (sgn c.acc ^^ sgn m)) ∧
    (mag c.acc < mag m →
      ∃ t, exec (.div r y) s = .next t ∧ OnlyCentral s t ∧
        t.central = { c with pc := c.pc + 1, acc := t.central.acc, q := t.central.q } ∧
        mag t.central.acc * mag m + mag t.central.q = doubleMag c.acc c.q ∧ mag t.central.q < mag m ∧
        sgn t.central.acc = (sgn c.acc ^^ sgn m) ∧ sgn t.central.q = sgn c.acc) ∧
    (mag m ≤ mag c.acc →
      ∃ t, exec (.div r y) s = .next t ∧ OnlyCentral s t ∧
        t.central = { c with pc := c.pc + 1, divideCheck := true })

/-- DPA and SQR. Sums of like-signed words are exact when they fit; on overflow, and for words of unlike sign, the sum
is free (log 46). The root is within one unit of the exact one (free where it would round out of the word), a negative
argument turns the divide check on; Q, and what happens for an argument of sign 1 and magnitude 0, are free (log
46). -/
def Obligations.CentralDoubleAndRoot : Prop :=
  ∀ (s : State) (r : BitVec 4) (y : BitVec 9),
    let c := s.central
    let a := Config.centralLocation s.draws r y
    let v := doubleValue c.acc c.q + doubleValue (c.word (a + 1)) (c.word a)
    let like := sgn (c.word (a + 1)) = sgn (c.word a) ∧ sgn c.acc = sgn c.q
    let d := doubleMag c.acc c.q
    (∃ t, exec (.dpa r y) s = .next t ∧ OnlyCentral s t ∧
      t.central = { c with
        pc := c.pc + 1, acc := t.central.acc, q := t.central.q, overflow := t.central.overflow } ∧
      (c.overflow = true → t.central.overflow = true) ∧
      (like → v.natAbs < 2 ^ 34 → t.central.overflow = c.overflow ∧ sgn t.central.q = sgn t.central.acc ∧
        doubleValue t.central.acc t.central.q = v ∧ (v = 0 → sgn t.central.acc = sgn c.acc)) ∧
      (like → 2 ^ 34 ≤ v.natAbs → t.central.overflow = true)) ∧
    (sgn c.acc = true → d ≠ 0 →
      ∃ t, exec .sqr s = .next t ∧ OnlyCentral s t ∧ t.central = { c with pc := c.pc + 1, divideCheck := true }) ∧
    (sgn c.acc = false →
      ∃ t, exec .sqr s = .next t ∧ OnlyCentral s t ∧
        t.central = { c with pc := c.pc + 1, acc := t.central.acc, q := t.central.q } ∧
        sgn t.central.acc = false ∧
        (d ≤ 131071 * 131071 + 131071 → (mag t.central.acc - 1) * (mag t.central.acc - 1) ≤ d ∧
          d < (mag t.central.acc + 1) * (mag t.central.acc + 1))) ∧
    (sgn c.acc = true → d = 0 →
      ∃ t, exec .sqr s = .next t ∧ OnlyCentral s t ∧
        t.central = { c with
          pc := c.pc + 1, acc := t.central.acc, q := t.central.q, divideCheck := t.central.divideCheck })

/-- Word transmission and logical operations: the accumulator or Q receives a word, or a word of memory receives one
and every other word stays. The conversion of CGC is free (log 46). -/
def Obligations.CentralWords : Prop :=
  ∀ (s : State) (r : BitVec 4) (y : BitVec 9),
    let c := s.central
    let a := Config.centralLocation s.draws r y
    let m := c.word a
    (∀ p ∈ [(Instr.cla r y, m), (Instr.lga r y, c.acc ||| m), (Instr.lgm r y, c.acc &&& m),
        (Instr.lgc r y, c.acc ^^^ m), (Instr.cgc r y, Config.centralGray m)],
      ∃ t, exec p.1 s = .next t ∧ OnlyCentral s t ∧ t.central = { c with pc := c.pc + 1, acc := p.2 }) ∧
    (∃ t, exec (.ldq r y) s = .next t ∧ OnlyCentral s t ∧ t.central = { c with pc := c.pc + 1, q := m }) ∧
    ∀ p ∈ [(Instr.str r y, c.acc), (Instr.stq r y, c.q)],
      ∃ t, exec p.1 s = .next t ∧ OnlyCentral s t ∧
        t.central = { c with pc := c.pc + 1, mem := t.central.mem } ∧
        ∀ x, t.central.word x = if x = a then p.2 else c.word x

/-- The index operations with R = 0 or 13 do nothing; with R = 1 to 12 they count, transfer and skip exactly while the
register stays within 17 bits (beyond: free, log 53), TRX and SXH reading all 18 bits as one unsigned number (log 53).
With R = 14 or 15 and R^1 a one they do the same on bits 01 to 17 of index register 1 with the indirect word (its
layout: log 58; its address is free: log 43); with R^1 a zero INX and DCX do nothing, the program counter of TRX is
free, and so is the skip of SXH (log 53). The part of the X bit of TRX and SXH is the model's (log 59). -/
def Obligations.CentralIndexOperations : Prop :=
  ∀ (s : State) (r : BitVec 4) (x : Bool) (y : BitVec 8),
    let c := s.central
    let v := c.indexValue r
    let one := c.indexValue 1
    let w := c.word (Config.centralLocation (s.draws + 1) r (y.setWidth 9))
    let z := c.word (Config.centralLocation s.draws r (BitVec.ofBool x ++ y))
    (r = 0 ∨ r = 13 → ∀ i ∈ [Instr.inx r y, .dcx r y, .trx r x y, .sxh r x y],
      ∃ t, exec i s = .next t ∧ OnlyCentral s t ∧ t.central = { c with pc := c.pc + 1 }) ∧
    (1 ≤ r.toNat → r.toNat ≤ 12 →
      (∃ t, exec (.inx r y) s = .next t ∧ OnlyCentral s t ∧
        t.central = { c with pc := c.pc + 1, index := t.central.index } ∧
        (v.toNat + y.toNat < 2 ^ 17 → (t.central.indexValue r).toNat = v.toNat + y.toNat) ∧
        ∀ k, k ≠ r → t.central.indexValue k = c.indexValue k) ∧
      (∃ t, exec (.dcx r y) s = .next t ∧ OnlyCentral s t ∧
        t.central = { c with pc := c.pc + 1, index := t.central.index } ∧
        (v.toNat < 2 ^ 17 → y.toNat ≤ v.toNat → (t.central.indexValue r).toNat = v.toNat - y.toNat) ∧
        ∀ k, k ≠ r → t.central.indexValue k = c.indexValue k) ∧
      (∃ t, exec (.trx r x y) s = .next t ∧ OnlyCentral s t ∧
        t.central = { c with pc := t.central.pc, index := t.central.index } ∧
        (v = 0 → t.central.pc = c.pc + 1 ∧ t.central.index = c.index) ∧
        (v ≠ 0 → t.central.pc = Config.centralLocation s.draws r (BitVec.ofBool x ++ y) ∧
          t.central.indexValue r = v - 1) ∧
        ∀ k, k ≠ r → t.central.indexValue k = c.indexValue k) ∧
      ∃ t, exec (.sxh r x y) s = .next t ∧ OnlyCentral s t ∧
        t.central = { c with pc := if y.toNat < v.toNat then c.pc + 2 else c.pc + 1 }) ∧
    (r = 14 ∨ r = 15 →
      (∃ t, exec (.inx r y) s = .next t ∧ OnlyCentral s t ∧
        t.central = { c with pc := c.pc + 1, index := t.central.index } ∧
        (sgn w = false → t.central.index = c.index) ∧
        (sgn w = true → mag one + mag w < 2 ^ 17 → mag (t.central.indexValue 1) = mag one + mag w) ∧
        ∀ k, k ≠ 1 → t.central.indexValue k = c.indexValue k) ∧
      (∃ t, exec (.dcx r y) s = .next t ∧ OnlyCentral s t ∧
        t.central = { c with pc := c.pc + 1, index := t.central.index } ∧
        (sgn w = false → t.central.index = c.index) ∧
        (sgn w = true → mag w ≤ mag one → mag (t.central.indexValue 1) = mag one - mag w) ∧
        ∀ k, k ≠ 1 → t.central.indexValue k = c.indexValue k) ∧
      (∃ t, exec (.trx r x y) s = .next t ∧ OnlyCentral s t ∧
        t.central = { c with pc := t.central.pc, index := t.central.index } ∧
        (sgn z = false ∨ one = 0 → t.central.index = c.index) ∧
        (sgn z = true → one = 0 → t.central.pc = c.pc + 1) ∧
        (sgn z = true → one ≠ 0 → t.central.pc.toNat = mag z ∧ t.central.indexValue 1 = one - 1) ∧
        ∀ k, k ≠ 1 → t.central.indexValue k = c.indexValue k) ∧
      ∃ t, exec (.sxh r x y) s = .next t ∧ OnlyCentral s t ∧ t.central = { c with pc := t.central.pc } ∧
        (t.central.pc = c.pc + 1 ∨ t.central.pc = c.pc + 2) ∧
        (sgn z = true → t.central.pc = if mag z < one.toNat then c.pc + 2 else c.pc + 1))

/-- The shifts by n = (K + index(R)) mod 64, the index register an unsigned number of 18 bits (logs 45, 53), in
magnitudes and signs; R = 13, 14, 15 is an illegal instruction operation (what T receives: log 52). The sense indicator
2 that RRB inverts is taken as F2 (log 47). -/
def Obligations.CentralShifts : Prop :=
  ∀ (s : State) (r : BitVec 4) (k : BitVec 6),
    let c := s.central
    let n := (k.toNat + (c.indexValue r).toNat) % 64
    let both : BitVec 36 := c.acc ++ c.q
    let d := doubleMag c.acc c.q
    let eight := [Instr.lsa r k, .lsb r k, .rsa r k, .rsb r k, .rra r k, .rrq r k, .lrb r k, .rrb r k]
    (13 ≤ r.toNat → ∀ i ∈ eight, exec i s = centralIllegal s ∧ ∃ t, exec i s = .next t ∧ IllegalOperation s t) ∧
    (r.toNat ≤ 12 →
      (∀ i ∈ eight, ∃ t, exec i s = .next t ∧ OnlyCentral s t ∧
        t.central = { c with
          pc := c.pc + 1, acc := t.central.acc, q := t.central.q, overflow := t.central.overflow
          indicators := t.central.indicators }) ∧
      (∃ t, exec (.lsa r k) s = .next t ∧ mag t.central.acc = mag c.acc * 2 ^ n % 2 ^ 17 ∧
        sgn t.central.acc = sgn c.acc ∧ t.central.q = c.q ∧
        t.central.overflow = (c.overflow || decide (2 ^ 17 ≤ mag c.acc * 2 ^ n)) ∧
        t.central.indicators = c.indicators) ∧
      (∃ t, exec (.lsb r k) s = .next t ∧ doubleMag t.central.acc t.central.q = d * 2 ^ n % 2 ^ 34 ∧
        sgn t.central.acc = sgn c.q ∧ sgn t.central.q = sgn c.q ∧
        t.central.overflow = (c.overflow || decide (2 ^ 34 ≤ d * 2 ^ n)) ∧
        t.central.indicators = c.indicators) ∧
      (∃ t, exec (.rsa r k) s = .next t ∧ mag t.central.acc = mag c.acc / 2 ^ n ∧
        sgn t.central.acc = sgn c.acc ∧ t.central.q = c.q ∧ t.central.overflow = c.overflow ∧
        t.central.indicators = c.indicators) ∧
      (∃ t, exec (.rsb r k) s = .next t ∧ doubleMag t.central.acc t.central.q = d / 2 ^ n ∧
        sgn t.central.acc = sgn c.acc ∧ sgn t.central.q = sgn c.acc ∧ t.central.overflow = c.overflow ∧
        t.central.indicators = c.indicators) ∧
      (∃ t, exec (.rra r k) s = .next t ∧ t.central.acc = c.acc.rotateRight n ∧ t.central.q = c.q ∧
        t.central.overflow = c.overflow ∧ t.central.indicators = c.indicators) ∧
      (∃ t, exec (.rrq r k) s = .next t ∧ t.central.q = c.q.rotateRight n ∧ t.central.acc = c.acc ∧
        t.central.overflow = c.overflow ∧ t.central.indicators = c.indicators) ∧
      (∃ t, exec (.lrb r k) s = .next t ∧ t.central.acc ++ t.central.q = both.rotateLeft n ∧
        t.central.overflow = c.overflow ∧ t.central.indicators = c.indicators) ∧
      ∃ t, exec (.rrb r k) s = .next t ∧ t.central.acc ++ t.central.q = both.rotateRight n ∧
        t.central.overflow = c.overflow ∧
        ∀ j, t.central.indicator j =
          if j = 1 then
            c.indicator 1 ^^ (((List.range n).countP fun e => both.getLsbD (e % 36)) % 2 == 1)
          else c.indicator j)

/-- SAP, CSA, XCA and CPA: what each does to the accumulator and Q, and its operation code 37 with its X, in bits 9 to
11 (the place of X is presumed, log 42). -/
def Obligations.CentralRegisterOperations : Prop :=
  ∀ s : State,
    let c := s.central
    (∃ t, exec .sap s = .next t ∧ OnlyCentral s t ∧
      t.central = { c with pc := c.pc + 1, acc := 0#1 ++ c.acc.extractLsb' 0 17 }) ∧
    (∃ t, exec .csa s = .next t ∧ OnlyCentral s t ∧
      t.central = { c with pc := c.pc + 1, acc := c.acc ^^^ 0x20000 }) ∧
    (∃ t, exec .xca s = .next t ∧ OnlyCentral s t ∧
      t.central = { c with pc := c.pc + 1, acc := c.q, q := c.acc }) ∧
    (∃ t, exec .cpa s = .next t ∧ OnlyCentral s t ∧
      t.central = { c with
        pc := c.pc + 1
        acc := if c.acc.getMsbD 0 then 1#1 ++ -(c.acc.extractLsb' 0 17) else c.acc }) ∧
    encode .sap = .word 0b11111_0000_000_000000 ∧ encode .csa = .word 0b11111_0000_100_000000 ∧
    encode .xca = .word 0b11111_0000_011_000000 ∧ encode .cpa = .word 0b11111_0000_101_000000

/-- Page registers and block indicators; page register 0 is never written. Which page register an accumulator
addresses, how a negative or largest word counts on, and whether LPR of page register 0 counts, are free (log 49); so
are the bits of Q that RBI does not deliver (log 46). -/
def Obligations.CentralPages : Prop :=
  ∀ (s : State) (ch : BitVec 3),
    let c := s.central
    let p := Config.centralPage c.acc
    (∃ t, exec .lpr s = .next t ∧ OnlyCentral s t ∧
      t.central = { c with pc := c.pc + 1, acc := t.central.acc, q := t.central.q, pages := t.central.pages } ∧
      (∀ k : BitVec 8,
        readStore 0 t.central.pages k.toNat = if p ≠ 0 ∧ k = p then c.q else readStore 0 c.pages k.toNat) ∧
      (c.acc.toNat < 131071 → t.central.acc = c.acc + 1 ∨ p = 0 ∧ t.central.acc = c.acc) ∧
      (c.q.toNat < 131071 → t.central.q = c.q + 1 ∨ p = 0 ∧ t.central.q = c.q)) ∧
    (∃ t, exec .rpr s = .next t ∧ OnlyCentral s t ∧
      t.central = { c with pc := c.pc + 1, acc := t.central.acc, q := readStore 0 c.pages p.toNat } ∧
      (c.acc.toNat < 131071 → t.central.acc = c.acc + 1)) ∧
    (∃ t, exec (.lbi ch) s = .next t ∧ OnlyCentral s t ∧
      t.central = { c with pc := c.pc + 1, blockIndicators := t.central.blockIndicators } ∧
      ∀ k : Fin 8, t.central.blockIndicators[k.val] =
        if k.val = ch.toNat then c.q.extractLsb' 0 4 else c.blockIndicators[k.val]) ∧
    ∃ t, exec (.rbi ch) s = .next t ∧ OnlyCentral s t ∧
      t.central = { c with pc := c.pc + 1, q := t.central.q } ∧
      t.central.q.extractLsb' 8 4 = c.blockIndicators[ch.toNat]'ch.isLt

/-- Indicators and switches: SEI and REI set and reset the named indicators, but F3 is not affected and F7 is always set
in the single processor configuration; SKI and SKW skip when all the named ones are on. Each of the 10 bits of N
corresponds to one of the 10 indicators; which to which is free, one to one (log 47). The operation code and X of their
words stand where those of LCK do (layout: log 42). -/
def Obligations.CentralIndicators : Prop :=
  ∀ (s : State) (n : BitVec 10),
    let c := s.central
    let names := fun j : Fin 10 => n.getMsbD (Config.centralIndicator.symm j).val
    let code := fun x : BitVec 3 => Code.word (0b01100#5 ++ n.extractLsb' 6 4 ++ x ++ n.extractLsb' 0 6)
    (∀ p ∈ [(Instr.sei n, true), (Instr.rei n, false)],
      ∃ t, exec p.1 s = .next t ∧ OnlyCentral s t ∧
        t.central = { c with pc := c.pc + 1, indicators := t.central.indicators } ∧
        t.central.indicator 2 = c.indicator 2 ∧ (c.dual = false → t.central.indicator 6 = true) ∧
        ∀ j, j ≠ 2 → (j ≠ 6 ∨ c.dual = true) → t.central.indicator j = if names j then p.2 else c.indicator j) ∧
    (∃ t, exec (.ski n) s = .next t ∧ OnlyCentral s t ∧
      t.central = { c with pc := if ∀ j, names j = true → c.indicator j = true then c.pc + 2 else c.pc + 1 }) ∧
    (∃ t, exec (.skw n) s = .next t ∧ OnlyCentral s t ∧
      t.central = { c with pc := if n &&& c.switches = n then c.pc + 2 else c.pc + 1 }) ∧
    encode (.sei n) = code 2 ∧ encode (.rei n) = code 3 ∧ encode (.ski n) = code 1 ∧ encode (.skw n) = code 5

/-- EXF sends the addressed word to a channel that exists; the serial instructions act when the Console Not Busy
Indicator allows it, with odd parity over the bits and F4, taken as sense indicator F04 (log 47). Which channels form a
group, and that a command word may lie outside the first block, are the model's (log 51). The address of EXF for a Y whose
leading bit is one (log 51) and the seventh bit of the Console Buffer Register after six bits (log 50) are free. -/
def Obligations.CentralInputOutput : Prop :=
  ∀ (s : State) (ch : BitVec 3) (y1 : Bool) (y : BitVec 9),
    let c := s.central
    let q6 := c.q.extractLsb' 0 6
    let q7 := c.q.extractLsb' 0 7
    let odd := fun (count : Nat) => count % 2 == 1
    let sends := fun (i : Instr) (d : Central) =>
      ∃ t, exec i s = .next t ∧ OnlyCentral s t ∧ t.central = { d with pc := c.pc + 1 }
    (c.channelExists ch = true → ∃ w, sends (.exf ch y1 y) { c with actions := c.actions ++ [.external ch w] } ∧
      (y.toNat < 256 → w = c.word (BitVec.ofNat 18 (y.toNat + if y1 then c.pc.toNat else 0)))) ∧
    (c.channelExists ch = false → sends (.exf ch y1 y) c) ∧
    sends .twf { c with keyboardLight := false, consoleNotBusy := true, actions := c.actions ++ [.keyboardOff] } ∧
    sends .cts { c with consoleNotBusy := true, actions := c.actions ++ [.tapeStop] } ∧
    sends .pmo { c with actions := c.actions ++ [.recordOn] } ∧
    sends .pmf { c with actions := c.actions ++ [.recordOff 86] } ∧
    sends .ipc { c with q :=
      if c.level7 then c.q.extractLsb' 7 11 ++ c.consoleBuffer
      else c.q.extractLsb' 6 12 ++ c.consoleBuffer.extractLsb' 0 6 } ∧
    (c.consoleNotBusy = true →
      sends .twa { c with keyboardLight := true, consoleNotBusy := false, actions := c.actions ++ [.keyboardOn] } ∧
      sends .cta { c with consoleNotBusy := false, actions := c.actions ++ [.tapeAdvance] } ∧
      sends .ctr { c with actions := c.actions ++ [.tapeRewind] } ∧
      (∃ top : Bool, sends .otw { c with
        consoleNotBusy := false, consoleBuffer := BitVec.ofBool top ++ q6
        actions := c.actions ++ [.printed q6] }) ∧
      (∃ (top p : Bool), sends .opa { c with
          consoleNotBusy := false, consoleBuffer := BitVec.ofBool top ++ q6
          actions := c.actions ++ [.frame6 q6 p] } ∧
        odd ((List.range 6).countP (fun k => q6.getLsbD k) + (c.indicator 3).toNat + p.toNat) = true) ∧
      ∃ p : Bool, sends .opb { c with
          consoleNotBusy := false, consoleBuffer := q7, actions := c.actions ++ [.frame7 q7 p] } ∧
        odd ((List.range 7).countP (fun k => q7.getLsbD k) + (c.indicator 3).toNat + p.toNat) = true) ∧
    (c.consoleNotBusy = false → ∀ i ∈ [Instr.twa, .cta, .ctr, .otw, .opa, .opb], sends i c)
end

