-- ==== Sys2Proof/Laws/State.lean ====
section
/-! SUPPORT. One lemma for each field of State and each update of Machine/Ops.lean, true by rfl. -/

namespace Sys2Proof.Machine

variable (s : State)

/-! setReg -/
@[simp] theorem State.setReg_regs (r : Reg) (v : Half) : (s.setReg r v).regs = s.regs.set r.val v := rfl
@[simp] theorem State.setReg_control (r : Reg) (v : Half) : (s.setReg r v).control = s.control := rfl
@[simp] theorem State.setReg_cc (r : Reg) (v : Half) : (s.setReg r v).cc = s.cc := rfl
@[simp] theorem State.setReg_loc (r : Reg) (v : Half) : (s.setReg r v).loc = s.loc := rfl
@[simp] theorem State.setReg_mem (r : Reg) (v : Half) : (s.setReg r v).mem = s.mem := rfl
@[simp] theorem State.setReg_pending (r : Reg) (v : Half) : (s.setReg r v).pending = s.pending := rfl
@[simp] theorem State.setReg_answers (r : Reg) (v : Half) : (s.setReg r v).answers = s.answers := rfl
@[simp] theorem State.setReg_requests (r : Reg) (v : Half) : (s.setReg r v).requests = s.requests := rfl
@[simp] theorem State.setReg_draws (r : Reg) (v : Half) : (s.setReg r v).draws = s.draws := rfl
@[simp] theorem State.setReg_platform (r : Reg) (v : Half) : (s.setReg r v).platform = s.platform := rfl
@[simp] theorem State.setReg_central (r : Reg) (v : Half) : (s.setReg r v).central = s.central := rfl
@[simp] theorem State.setReg_active (r : Reg) (v : Half) : (s.setReg r v).active = s.active := rfl

/-! setPair -/
@[simp] theorem State.setPair_control (r : Reg) (v : Full) : (s.setPair r v).control = s.control := rfl
@[simp] theorem State.setPair_cc (r : Reg) (v : Full) : (s.setPair r v).cc = s.cc := rfl
@[simp] theorem State.setPair_loc (r : Reg) (v : Full) : (s.setPair r v).loc = s.loc := rfl
@[simp] theorem State.setPair_mem (r : Reg) (v : Full) : (s.setPair r v).mem = s.mem := rfl
@[simp] theorem State.setPair_pending (r : Reg) (v : Full) : (s.setPair r v).pending = s.pending := rfl
@[simp] theorem State.setPair_answers (r : Reg) (v : Full) : (s.setPair r v).answers = s.answers := rfl
@[simp] theorem State.setPair_requests (r : Reg) (v : Full) : (s.setPair r v).requests = s.requests := rfl
@[simp] theorem State.setPair_draws (r : Reg) (v : Full) : (s.setPair r v).draws = s.draws := rfl
@[simp] theorem State.setPair_platform (r : Reg) (v : Full) : (s.setPair r v).platform = s.platform := rfl
@[simp] theorem State.setPair_central (r : Reg) (v : Full) : (s.setPair r v).central = s.central := rfl
@[simp] theorem State.setPair_active (r : Reg) (v : Full) : (s.setPair r v).active = s.active := rfl

/-! setPs -/
@[simp] theorem State.setPs_regs (p : Half) : (s.setPs p).regs = s.regs := rfl
@[simp] theorem State.setPs_control (p : Half) : (s.setPs p).control = p.extractLsb' 4 12 := rfl
@[simp] theorem State.setPs_cc (p : Half) : (s.setPs p).cc = p.extractLsb' 0 4 := rfl
@[simp] theorem State.setPs_loc (p : Half) : (s.setPs p).loc = s.loc := rfl
@[simp] theorem State.setPs_mem (p : Half) : (s.setPs p).mem = s.mem := rfl
@[simp] theorem State.setPs_pending (p : Half) : (s.setPs p).pending = s.pending := rfl
@[simp] theorem State.setPs_answers (p : Half) : (s.setPs p).answers = s.answers := rfl
@[simp] theorem State.setPs_requests (p : Half) : (s.setPs p).requests = s.requests := rfl
@[simp] theorem State.setPs_draws (p : Half) : (s.setPs p).draws = s.draws := rfl
@[simp] theorem State.setPs_platform (p : Half) : (s.setPs p).platform = s.platform := rfl
@[simp] theorem State.setPs_central (p : Half) : (s.setPs p).central = s.central := rfl
@[simp] theorem State.setPs_active (p : Half) : (s.setPs p).active = s.active := rfl

/-! setLoc -/
@[simp] theorem State.setLoc_regs (l : Half) : (s.setLoc l).regs = s.regs := rfl
@[simp] theorem State.setLoc_control (l : Half) : (s.setLoc l).control = s.control := rfl
@[simp] theorem State.setLoc_cc (l : Half) : (s.setLoc l).cc = s.cc := rfl
@[simp] theorem State.setLoc_loc (l : Half) : (s.setLoc l).loc = l := rfl
@[simp] theorem State.setLoc_mem (l : Half) : (s.setLoc l).mem = s.mem := rfl
@[simp] theorem State.setLoc_pending (l : Half) : (s.setLoc l).pending = s.pending := rfl
@[simp] theorem State.setLoc_answers (l : Half) : (s.setLoc l).answers = s.answers := rfl
@[simp] theorem State.setLoc_requests (l : Half) : (s.setLoc l).requests = s.requests := rfl
@[simp] theorem State.setLoc_draws (l : Half) : (s.setLoc l).draws = s.draws := rfl
@[simp] theorem State.setLoc_platform (l : Half) : (s.setLoc l).platform = s.platform := rfl
@[simp] theorem State.setLoc_central (l : Half) : (s.setLoc l).central = s.central := rfl
@[simp] theorem State.setLoc_active (l : Half) : (s.setLoc l).active = s.active := rfl

/-! setPsw -/
@[simp] theorem State.setPsw_regs (w : Full) : (s.setPsw w).regs = s.regs := rfl
@[simp] theorem State.setPsw_control (w : Full) : (s.setPsw w).control = (w.extractLsb' 16 16).extractLsb' 4 12 := rfl
@[simp] theorem State.setPsw_cc (w : Full) : (s.setPsw w).cc = (w.extractLsb' 16 16).extractLsb' 0 4 := rfl
@[simp] theorem State.setPsw_loc (w : Full) : (s.setPsw w).loc = w.extractLsb' 0 16 := rfl
@[simp] theorem State.setPsw_mem (w : Full) : (s.setPsw w).mem = s.mem := rfl
@[simp] theorem State.setPsw_pending (w : Full) : (s.setPsw w).pending = s.pending := rfl
@[simp] theorem State.setPsw_answers (w : Full) : (s.setPsw w).answers = s.answers := rfl
@[simp] theorem State.setPsw_requests (w : Full) : (s.setPsw w).requests = s.requests := rfl
@[simp] theorem State.setPsw_draws (w : Full) : (s.setPsw w).draws = s.draws := rfl
@[simp] theorem State.setPsw_platform (w : Full) : (s.setPsw w).platform = s.platform := rfl
@[simp] theorem State.setPsw_central (w : Full) : (s.setPsw w).central = s.central := rfl
@[simp] theorem State.setPsw_active (w : Full) : (s.setPsw w).active = s.active := rfl

/-! setCC -/
@[simp] theorem State.setCC_regs (c : BitVec 4) : (s.setCC c).regs = s.regs := rfl
@[simp] theorem State.setCC_control (c : BitVec 4) : (s.setCC c).control = s.control := rfl
@[simp] theorem State.setCC_cc (c : BitVec 4) : (s.setCC c).cc = c := rfl
@[simp] theorem State.setCC_loc (c : BitVec 4) : (s.setCC c).loc = s.loc := rfl
@[simp] theorem State.setCC_mem (c : BitVec 4) : (s.setCC c).mem = s.mem := rfl
@[simp] theorem State.setCC_pending (c : BitVec 4) : (s.setCC c).pending = s.pending := rfl
@[simp] theorem State.setCC_answers (c : BitVec 4) : (s.setCC c).answers = s.answers := rfl
@[simp] theorem State.setCC_requests (c : BitVec 4) : (s.setCC c).requests = s.requests := rfl
@[simp] theorem State.setCC_draws (c : BitVec 4) : (s.setCC c).draws = s.draws := rfl
@[simp] theorem State.setCC_platform (c : BitVec 4) : (s.setCC c).platform = s.platform := rfl
@[simp] theorem State.setCC_central (c : BitVec 4) : (s.setCC c).central = s.central := rfl
@[simp] theorem State.setCC_active (c : BitVec 4) : (s.setCC c).active = s.active := rfl

/-! advance -/
@[simp] theorem State.advance_regs (n : Half) : (s.advance n).regs = s.regs := rfl
@[simp] theorem State.advance_control (n : Half) : (s.advance n).control = s.control := rfl
@[simp] theorem State.advance_cc (n : Half) : (s.advance n).cc = s.cc := rfl
@[simp] theorem State.advance_loc (n : Half) : (s.advance n).loc = s.loc + n := rfl
@[simp] theorem State.advance_mem (n : Half) : (s.advance n).mem = s.mem := rfl
@[simp] theorem State.advance_pending (n : Half) : (s.advance n).pending = s.pending := rfl
@[simp] theorem State.advance_answers (n : Half) : (s.advance n).answers = s.answers := rfl
@[simp] theorem State.advance_requests (n : Half) : (s.advance n).requests = s.requests := rfl
@[simp] theorem State.advance_draws (n : Half) : (s.advance n).draws = s.draws := rfl
@[simp] theorem State.advance_platform (n : Half) : (s.advance n).platform = s.platform := rfl
@[simp] theorem State.advance_central (n : Half) : (s.advance n).central = s.central := rfl
@[simp] theorem State.advance_active (n : Half) : (s.advance n).active = s.active := rfl

/-! setObank -/
@[simp] theorem State.setObank_regs (b : Bank) : (s.setObank b).regs = s.regs := rfl
@[simp] theorem State.setObank_control (b : Bank) : (s.setObank b).control = s.control.extractLsb' 2 10 ++ b := rfl
@[simp] theorem State.setObank_cc (b : Bank) : (s.setObank b).cc = s.cc := rfl
@[simp] theorem State.setObank_loc (b : Bank) : (s.setObank b).loc = s.loc := rfl
@[simp] theorem State.setObank_mem (b : Bank) : (s.setObank b).mem = s.mem := rfl
@[simp] theorem State.setObank_pending (b : Bank) : (s.setObank b).pending = s.pending := rfl
@[simp] theorem State.setObank_answers (b : Bank) : (s.setObank b).answers = s.answers := rfl
@[simp] theorem State.setObank_requests (b : Bank) : (s.setObank b).requests = s.requests := rfl
@[simp] theorem State.setObank_draws (b : Bank) : (s.setObank b).draws = s.draws := rfl
@[simp] theorem State.setObank_platform (b : Bank) : (s.setObank b).platform = s.platform := rfl
@[simp] theorem State.setObank_central (b : Bank) : (s.setObank b).central = s.central := rfl
@[simp] theorem State.setObank_active (b : Bank) : (s.setObank b).active = s.active := rfl

/-! setBanks -/
@[simp] theorem State.setBanks_regs (b : BitVec 4) : (s.setBanks b).regs = s.regs := rfl
@[simp] theorem State.setBanks_control (b : BitVec 4) : (s.setBanks b).control = s.control.extractLsb' 4 8 ++ b := rfl
@[simp] theorem State.setBanks_cc (b : BitVec 4) : (s.setBanks b).cc = s.cc := rfl
@[simp] theorem State.setBanks_loc (b : BitVec 4) : (s.setBanks b).loc = s.loc := rfl
@[simp] theorem State.setBanks_mem (b : BitVec 4) : (s.setBanks b).mem = s.mem := rfl
@[simp] theorem State.setBanks_pending (b : BitVec 4) : (s.setBanks b).pending = s.pending := rfl
@[simp] theorem State.setBanks_answers (b : BitVec 4) : (s.setBanks b).answers = s.answers := rfl
@[simp] theorem State.setBanks_requests (b : BitVec 4) : (s.setBanks b).requests = s.requests := rfl
@[simp] theorem State.setBanks_draws (b : BitVec 4) : (s.setBanks b).draws = s.draws := rfl
@[simp] theorem State.setBanks_platform (b : BitVec 4) : (s.setBanks b).platform = s.platform := rfl
@[simp] theorem State.setBanks_central (b : BitVec 4) : (s.setBanks b).central = s.central := rfl
@[simp] theorem State.setBanks_active (b : BitVec 4) : (s.setBanks b).active = s.active := rfl

/-! drawn -/
@[simp] theorem State.drawn_regs (n : Nat) : (s.drawn n).regs = s.regs := rfl
@[simp] theorem State.drawn_control (n : Nat) : (s.drawn n).control = s.control := rfl
@[simp] theorem State.drawn_cc (n : Nat) : (s.drawn n).cc = s.cc := rfl
@[simp] theorem State.drawn_loc (n : Nat) : (s.drawn n).loc = s.loc := rfl
@[simp] theorem State.drawn_mem (n : Nat) : (s.drawn n).mem = s.mem := rfl
@[simp] theorem State.drawn_pending (n : Nat) : (s.drawn n).pending = s.pending := rfl
@[simp] theorem State.drawn_answers (n : Nat) : (s.drawn n).answers = s.answers := rfl
@[simp] theorem State.drawn_requests (n : Nat) : (s.drawn n).requests = s.requests := rfl
@[simp] theorem State.drawn_draws (n : Nat) : (s.drawn n).draws = s.draws + n := rfl
@[simp] theorem State.drawn_platform (n : Nat) : (s.drawn n).platform = s.platform := rfl
@[simp] theorem State.drawn_central (n : Nat) : (s.drawn n).central = s.central := rfl
@[simp] theorem State.drawn_active (n : Nat) : (s.drawn n).active = s.active := rfl

/-! putByte -/
@[simp] theorem State.putByte_regs (b : Bank) (e : Half) (v : Byte) : (s.putByte b e v).regs = s.regs := rfl
@[simp] theorem State.putByte_control (b : Bank) (e : Half) (v : Byte) : (s.putByte b e v).control = s.control := rfl
@[simp] theorem State.putByte_cc (b : Bank) (e : Half) (v : Byte) : (s.putByte b e v).cc = s.cc := rfl
@[simp] theorem State.putByte_loc (b : Bank) (e : Half) (v : Byte) : (s.putByte b e v).loc = s.loc := rfl
@[simp] theorem State.putByte_mem (b : Bank) (e : Half) (v : Byte) : (s.putByte b e v).mem = writeCell s.mem (addr18 b e) v :=
    rfl
@[simp] theorem State.putByte_pending (b : Bank) (e : Half) (v : Byte) : (s.putByte b e v).pending = s.pending := rfl
@[simp] theorem State.putByte_answers (b : Bank) (e : Half) (v : Byte) : (s.putByte b e v).answers = s.answers := rfl
@[simp] theorem State.putByte_requests (b : Bank) (e : Half) (v : Byte) : (s.putByte b e v).requests = s.requests :=
    rfl
@[simp] theorem State.putByte_draws (b : Bank) (e : Half) (v : Byte) : (s.putByte b e v).draws = s.draws := rfl
@[simp] theorem State.putByte_platform (b : Bank) (e : Half) (v : Byte) : (s.putByte b e v).platform = s.platform :=
    rfl
@[simp] theorem State.putByte_central (b : Bank) (e : Half) (v : Byte) : (s.putByte b e v).central = s.central := rfl
@[simp] theorem State.putByte_active (b : Bank) (e : Half) (v : Byte) : (s.putByte b e v).active = s.active := rfl

/-! putHalf -/
@[simp] theorem State.putHalf_regs (b : Bank) (e v : Half) : (s.putHalf b e v).regs = s.regs := rfl
@[simp] theorem State.putHalf_control (b : Bank) (e v : Half) : (s.putHalf b e v).control = s.control := rfl
@[simp] theorem State.putHalf_cc (b : Bank) (e v : Half) : (s.putHalf b e v).cc = s.cc := rfl
@[simp] theorem State.putHalf_loc (b : Bank) (e v : Half) : (s.putHalf b e v).loc = s.loc := rfl
@[simp] theorem State.putHalf_pending (b : Bank) (e v : Half) : (s.putHalf b e v).pending = s.pending := rfl
@[simp] theorem State.putHalf_answers (b : Bank) (e v : Half) : (s.putHalf b e v).answers = s.answers := rfl
@[simp] theorem State.putHalf_requests (b : Bank) (e v : Half) : (s.putHalf b e v).requests = s.requests := rfl
@[simp] theorem State.putHalf_draws (b : Bank) (e v : Half) : (s.putHalf b e v).draws = s.draws := rfl
@[simp] theorem State.putHalf_platform (b : Bank) (e v : Half) : (s.putHalf b e v).platform = s.platform := rfl
@[simp] theorem State.putHalf_central (b : Bank) (e v : Half) : (s.putHalf b e v).central = s.central := rfl
@[simp] theorem State.putHalf_active (b : Bank) (e v : Half) : (s.putHalf b e v).active = s.active := rfl

/-! putFull -/
@[simp] theorem State.putFull_regs (b : Bank) (e : Half) (v : Full) : (s.putFull b e v).regs = s.regs := rfl
@[simp] theorem State.putFull_control (b : Bank) (e : Half) (v : Full) : (s.putFull b e v).control = s.control := rfl
@[simp] theorem State.putFull_cc (b : Bank) (e : Half) (v : Full) : (s.putFull b e v).cc = s.cc := rfl
@[simp] theorem State.putFull_loc (b : Bank) (e : Half) (v : Full) : (s.putFull b e v).loc = s.loc := rfl
@[simp] theorem State.putFull_pending (b : Bank) (e : Half) (v : Full) : (s.putFull b e v).pending = s.pending := rfl
@[simp] theorem State.putFull_answers (b : Bank) (e : Half) (v : Full) : (s.putFull b e v).answers = s.answers := rfl
@[simp] theorem State.putFull_requests (b : Bank) (e : Half) (v : Full) : (s.putFull b e v).requests = s.requests :=
    rfl
@[simp] theorem State.putFull_draws (b : Bank) (e : Half) (v : Full) : (s.putFull b e v).draws = s.draws := rfl
@[simp] theorem State.putFull_platform (b : Bank) (e : Half) (v : Full) : (s.putFull b e v).platform = s.platform :=
    rfl
@[simp] theorem State.putFull_central (b : Bank) (e : Half) (v : Full) : (s.putFull b e v).central = s.central := rfl
@[simp] theorem State.putFull_active (b : Bank) (e : Half) (v : Full) : (s.putFull b e v).active = s.active := rfl

/-! setCentral -/
@[simp] theorem State.setCentral_regs (c : Central) : (s.setCentral c).regs = s.regs := rfl
@[simp] theorem State.setCentral_control (c : Central) : (s.setCentral c).control = s.control := rfl
@[simp] theorem State.setCentral_cc (c : Central) : (s.setCentral c).cc = s.cc := rfl
@[simp] theorem State.setCentral_loc (c : Central) : (s.setCentral c).loc = s.loc := rfl
@[simp] theorem State.setCentral_mem (c : Central) : (s.setCentral c).mem = s.mem := rfl
@[simp] theorem State.setCentral_pending (c : Central) : (s.setCentral c).pending = s.pending := rfl
@[simp] theorem State.setCentral_answers (c : Central) : (s.setCentral c).answers = s.answers := rfl
@[simp] theorem State.setCentral_requests (c : Central) : (s.setCentral c).requests = s.requests := rfl
@[simp] theorem State.setCentral_draws (c : Central) : (s.setCentral c).draws = s.draws := rfl
@[simp] theorem State.setCentral_platform (c : Central) : (s.setCentral c).platform = s.platform := rfl
@[simp] theorem State.setCentral_central (c : Central) : (s.setCentral c).central = c := rfl
@[simp] theorem State.setCentral_active (c : Central) : (s.setCentral c).active = s.active := rfl

/-! Readers of a field that an update leaves alone -/
@[simp] theorem State.setReg_byteAt (r : Reg) (v : Half) (k : Bank) (d : Half) : (s.setReg r v).byteAt k d = s.byteAt k d :=
    rfl
@[simp] theorem State.setReg_halfAt (r : Reg) (v : Half) (k : Bank) (d : Half) : (s.setReg r v).halfAt k d = s.halfAt k d :=
    rfl
@[simp] theorem State.setReg_fullAt (r : Reg) (v : Half) (k : Bank) (d : Half) : (s.setReg r v).fullAt k d = s.fullAt k d :=
    rfl
@[simp] theorem State.setReg_present (r : Reg) (v : Half) (x : Nat) : (s.setReg r v).present x = s.present x := rfl
@[simp] theorem State.setReg_ps (r : Reg) (v : Half) : (s.setReg r v).ps = s.ps := rfl
@[simp] theorem State.setReg_prot (r : Reg) (v : Half) : (s.setReg r v).prot = s.prot := rfl
@[simp] theorem State.setReg_fde (r : Reg) (v : Half) : (s.setReg r v).fde = s.fde := rfl
@[simp] theorem State.setReg_fpe (r : Reg) (v : Half) : (s.setReg r v).fpe = s.fpe := rfl
@[simp] theorem State.setReg_pbank (r : Reg) (v : Half) : (s.setReg r v).pbank = s.pbank := rfl
@[simp] theorem State.setReg_obank (r : Reg) (v : Half) : (s.setReg r v).obank = s.obank := rfl
@[simp] theorem State.setReg_carry (r : Reg) (v : Half) : (s.setReg r v).carry = s.carry := rfl
@[simp] theorem State.setPair_byteAt (r : Reg) (v : Full) (k : Bank) (d : Half) : (s.setPair r v).byteAt k d = s.byteAt k d :=
    rfl
@[simp] theorem State.setPair_halfAt (r : Reg) (v : Full) (k : Bank) (d : Half) : (s.setPair r v).halfAt k d = s.halfAt k d :=
    rfl
@[simp] theorem State.setPair_fullAt (r : Reg) (v : Full) (k : Bank) (d : Half) : (s.setPair r v).fullAt k d = s.fullAt k d :=
    rfl
@[simp] theorem State.setPair_present (r : Reg) (v : Full) (x : Nat) : (s.setPair r v).present x = s.present x := rfl
@[simp] theorem State.setPair_ps (r : Reg) (v : Full) : (s.setPair r v).ps = s.ps := rfl
@[simp] theorem State.setPair_prot (r : Reg) (v : Full) : (s.setPair r v).prot = s.prot := rfl
@[simp] theorem State.setPair_fde (r : Reg) (v : Full) : (s.setPair r v).fde = s.fde := rfl
@[simp] theorem State.setPair_fpe (r : Reg) (v : Full) : (s.setPair r v).fpe = s.fpe := rfl
@[simp] theorem State.setPair_pbank (r : Reg) (v : Full) : (s.setPair r v).pbank = s.pbank := rfl
@[simp] theorem State.setPair_obank (r : Reg) (v : Full) : (s.setPair r v).obank = s.obank := rfl
@[simp] theorem State.setPair_carry (r : Reg) (v : Full) : (s.setPair r v).carry = s.carry := rfl
@[simp] theorem State.setPs_reg (p : Half) (q : Reg) : (s.setPs p).reg q = s.reg q := rfl
@[simp] theorem State.setPs_byteAt (p : Half) (k : Bank) (d : Half) : (s.setPs p).byteAt k d = s.byteAt k d := rfl
@[simp] theorem State.setPs_halfAt (p : Half) (k : Bank) (d : Half) : (s.setPs p).halfAt k d = s.halfAt k d := rfl
@[simp] theorem State.setPs_fullAt (p : Half) (k : Bank) (d : Half) : (s.setPs p).fullAt k d = s.fullAt k d := rfl
@[simp] theorem State.setPs_present (p : Half) (x : Nat) : (s.setPs p).present x = s.present x := rfl
@[simp] theorem State.setLoc_reg (l : Half) (q : Reg) : (s.setLoc l).reg q = s.reg q := rfl
@[simp] theorem State.setLoc_byteAt (l : Half) (k : Bank) (d : Half) : (s.setLoc l).byteAt k d = s.byteAt k d := rfl
@[simp] theorem State.setLoc_halfAt (l : Half) (k : Bank) (d : Half) : (s.setLoc l).halfAt k d = s.halfAt k d := rfl
@[simp] theorem State.setLoc_fullAt (l : Half) (k : Bank) (d : Half) : (s.setLoc l).fullAt k d = s.fullAt k d := rfl
@[simp] theorem State.setLoc_present (l : Half) (x : Nat) : (s.setLoc l).present x = s.present x := rfl
@[simp] theorem State.setLoc_ps (l : Half) : (s.setLoc l).ps = s.ps := rfl
@[simp] theorem State.setLoc_prot (l : Half) : (s.setLoc l).prot = s.prot := rfl
@[simp] theorem State.setLoc_fde (l : Half) : (s.setLoc l).fde = s.fde := rfl
@[simp] theorem State.setLoc_fpe (l : Half) : (s.setLoc l).fpe = s.fpe := rfl
@[simp] theorem State.setLoc_pbank (l : Half) : (s.setLoc l).pbank = s.pbank := rfl
@[simp] theorem State.setLoc_obank (l : Half) : (s.setLoc l).obank = s.obank := rfl
@[simp] theorem State.setLoc_carry (l : Half) : (s.setLoc l).carry = s.carry := rfl
@[simp] theorem State.setPsw_reg (w : Full) (q : Reg) : (s.setPsw w).reg q = s.reg q := rfl
@[simp] theorem State.setPsw_byteAt (w : Full) (k : Bank) (d : Half) : (s.setPsw w).byteAt k d = s.byteAt k d := rfl
@[simp] theorem State.setPsw_halfAt (w : Full) (k : Bank) (d : Half) : (s.setPsw w).halfAt k d = s.halfAt k d := rfl
@[simp] theorem State.setPsw_fullAt (w : Full) (k : Bank) (d : Half) : (s.setPsw w).fullAt k d = s.fullAt k d := rfl
@[simp] theorem State.setPsw_present (w : Full) (x : Nat) : (s.setPsw w).present x = s.present x := rfl
@[simp] theorem State.setCC_reg (c : BitVec 4) (q : Reg) : (s.setCC c).reg q = s.reg q := rfl
@[simp] theorem State.setCC_byteAt (c : BitVec 4) (k : Bank) (d : Half) : (s.setCC c).byteAt k d = s.byteAt k d := rfl
@[simp] theorem State.setCC_halfAt (c : BitVec 4) (k : Bank) (d : Half) : (s.setCC c).halfAt k d = s.halfAt k d := rfl
@[simp] theorem State.setCC_fullAt (c : BitVec 4) (k : Bank) (d : Half) : (s.setCC c).fullAt k d = s.fullAt k d := rfl
@[simp] theorem State.setCC_present (c : BitVec 4) (x : Nat) : (s.setCC c).present x = s.present x := rfl
@[simp] theorem State.setCC_prot (c : BitVec 4) : (s.setCC c).prot = s.prot := rfl
@[simp] theorem State.setCC_fde (c : BitVec 4) : (s.setCC c).fde = s.fde := rfl
@[simp] theorem State.setCC_fpe (c : BitVec 4) : (s.setCC c).fpe = s.fpe := rfl
@[simp] theorem State.setCC_pbank (c : BitVec 4) : (s.setCC c).pbank = s.pbank := rfl
@[simp] theorem State.setCC_obank (c : BitVec 4) : (s.setCC c).obank = s.obank := rfl
@[simp] theorem State.advance_reg (n : Half) (q : Reg) : (s.advance n).reg q = s.reg q := rfl
@[simp] theorem State.advance_byteAt (n : Half) (k : Bank) (d : Half) : (s.advance n).byteAt k d = s.byteAt k d := rfl
@[simp] theorem State.advance_halfAt (n : Half) (k : Bank) (d : Half) : (s.advance n).halfAt k d = s.halfAt k d := rfl
@[simp] theorem State.advance_fullAt (n : Half) (k : Bank) (d : Half) : (s.advance n).fullAt k d = s.fullAt k d := rfl
@[simp] theorem State.advance_present (n : Half) (x : Nat) : (s.advance n).present x = s.present x := rfl
@[simp] theorem State.advance_ps (n : Half) : (s.advance n).ps = s.ps := rfl
@[simp] theorem State.advance_prot (n : Half) : (s.advance n).prot = s.prot := rfl
@[simp] theorem State.advance_fde (n : Half) : (s.advance n).fde = s.fde := rfl
@[simp] theorem State.advance_fpe (n : Half) : (s.advance n).fpe = s.fpe := rfl
@[simp] theorem State.advance_pbank (n : Half) : (s.advance n).pbank = s.pbank := rfl
@[simp] theorem State.advance_obank (n : Half) : (s.advance n).obank = s.obank := rfl
@[simp] theorem State.advance_carry (n : Half) : (s.advance n).carry = s.carry := rfl
@[simp] theorem State.setObank_reg (b : Bank) (q : Reg) : (s.setObank b).reg q = s.reg q := rfl
@[simp] theorem State.setObank_byteAt (b : Bank) (k : Bank) (d : Half) : (s.setObank b).byteAt k d = s.byteAt k d :=
    rfl
@[simp] theorem State.setObank_halfAt (b : Bank) (k : Bank) (d : Half) : (s.setObank b).halfAt k d = s.halfAt k d :=
    rfl
@[simp] theorem State.setObank_fullAt (b : Bank) (k : Bank) (d : Half) : (s.setObank b).fullAt k d = s.fullAt k d :=
    rfl
@[simp] theorem State.setObank_present (b : Bank) (x : Nat) : (s.setObank b).present x = s.present x := rfl
@[simp] theorem State.setObank_carry (b : Bank) : (s.setObank b).carry = s.carry := rfl
@[simp] theorem State.setBanks_reg (b : BitVec 4) (q : Reg) : (s.setBanks b).reg q = s.reg q := rfl
@[simp] theorem State.setBanks_byteAt (b : BitVec 4) (k : Bank) (d : Half) : (s.setBanks b).byteAt k d = s.byteAt k d :=
    rfl
@[simp] theorem State.setBanks_halfAt (b : BitVec 4) (k : Bank) (d : Half) : (s.setBanks b).halfAt k d = s.halfAt k d :=
    rfl
@[simp] theorem State.setBanks_fullAt (b : BitVec 4) (k : Bank) (d : Half) : (s.setBanks b).fullAt k d = s.fullAt k d :=
    rfl
@[simp] theorem State.setBanks_present (b : BitVec 4) (x : Nat) : (s.setBanks b).present x = s.present x := rfl
@[simp] theorem State.setBanks_carry (b : BitVec 4) : (s.setBanks b).carry = s.carry := rfl
@[simp] theorem State.drawn_reg (n : Nat) (q : Reg) : (s.drawn n).reg q = s.reg q := rfl
@[simp] theorem State.drawn_byteAt (n : Nat) (k : Bank) (d : Half) : (s.drawn n).byteAt k d = s.byteAt k d := rfl
@[simp] theorem State.drawn_halfAt (n : Nat) (k : Bank) (d : Half) : (s.drawn n).halfAt k d = s.halfAt k d := rfl
@[simp] theorem State.drawn_fullAt (n : Nat) (k : Bank) (d : Half) : (s.drawn n).fullAt k d = s.fullAt k d := rfl
@[simp] theorem State.drawn_present (n : Nat) (x : Nat) : (s.drawn n).present x = s.present x := rfl
@[simp] theorem State.drawn_ps (n : Nat) : (s.drawn n).ps = s.ps := rfl
@[simp] theorem State.drawn_prot (n : Nat) : (s.drawn n).prot = s.prot := rfl
@[simp] theorem State.drawn_fde (n : Nat) : (s.drawn n).fde = s.fde := rfl
@[simp] theorem State.drawn_fpe (n : Nat) : (s.drawn n).fpe = s.fpe := rfl
@[simp] theorem State.drawn_pbank (n : Nat) : (s.drawn n).pbank = s.pbank := rfl
@[simp] theorem State.drawn_obank (n : Nat) : (s.drawn n).obank = s.obank := rfl
@[simp] theorem State.drawn_carry (n : Nat) : (s.drawn n).carry = s.carry := rfl
@[simp] theorem State.putByte_reg (b : Bank) (e : Half) (v : Byte) (q : Reg) : (s.putByte b e v).reg q = s.reg q :=
    rfl
@[simp] theorem State.putByte_present (b : Bank) (e : Half) (v : Byte) (x : Nat) : (s.putByte b e v).present x = s.present x :=
    rfl
@[simp] theorem State.putByte_ps (b : Bank) (e : Half) (v : Byte) : (s.putByte b e v).ps = s.ps := rfl
@[simp] theorem State.putByte_prot (b : Bank) (e : Half) (v : Byte) : (s.putByte b e v).prot = s.prot := rfl
@[simp] theorem State.putByte_fde (b : Bank) (e : Half) (v : Byte) : (s.putByte b e v).fde = s.fde := rfl
@[simp] theorem State.putByte_fpe (b : Bank) (e : Half) (v : Byte) : (s.putByte b e v).fpe = s.fpe := rfl
@[simp] theorem State.putByte_pbank (b : Bank) (e : Half) (v : Byte) : (s.putByte b e v).pbank = s.pbank := rfl
@[simp] theorem State.putByte_obank (b : Bank) (e : Half) (v : Byte) : (s.putByte b e v).obank = s.obank := rfl
@[simp] theorem State.putByte_carry (b : Bank) (e : Half) (v : Byte) : (s.putByte b e v).carry = s.carry := rfl
@[simp] theorem State.putHalf_reg (b : Bank) (e v : Half) (q : Reg) : (s.putHalf b e v).reg q = s.reg q := rfl
@[simp] theorem State.putHalf_present (b : Bank) (e v : Half) (x : Nat) : (s.putHalf b e v).present x = s.present x :=
    rfl
@[simp] theorem State.putHalf_ps (b : Bank) (e v : Half) : (s.putHalf b e v).ps = s.ps := rfl
@[simp] theorem State.putHalf_prot (b : Bank) (e v : Half) : (s.putHalf b e v).prot = s.prot := rfl
@[simp] theorem State.putHalf_fde (b : Bank) (e v : Half) : (s.putHalf b e v).fde = s.fde := rfl
@[simp] theorem State.putHalf_fpe (b : Bank) (e v : Half) : (s.putHalf b e v).fpe = s.fpe := rfl
@[simp] theorem State.putHalf_pbank (b : Bank) (e v : Half) : (s.putHalf b e v).pbank = s.pbank := rfl
@[simp] theorem State.putHalf_obank (b : Bank) (e v : Half) : (s.putHalf b e v).obank = s.obank := rfl
@[simp] theorem State.putHalf_carry (b : Bank) (e v : Half) : (s.putHalf b e v).carry = s.carry := rfl
@[simp] theorem State.putFull_reg (b : Bank) (e : Half) (v : Full) (q : Reg) : (s.putFull b e v).reg q = s.reg q :=
    rfl
@[simp] theorem State.putFull_present (b : Bank) (e : Half) (v : Full) (x : Nat) : (s.putFull b e v).present x = s.present x :=
    rfl
@[simp] theorem State.putFull_ps (b : Bank) (e : Half) (v : Full) : (s.putFull b e v).ps = s.ps := rfl
@[simp] theorem State.putFull_prot (b : Bank) (e : Half) (v : Full) : (s.putFull b e v).prot = s.prot := rfl
@[simp] theorem State.putFull_fde (b : Bank) (e : Half) (v : Full) : (s.putFull b e v).fde = s.fde := rfl
@[simp] theorem State.putFull_fpe (b : Bank) (e : Half) (v : Full) : (s.putFull b e v).fpe = s.fpe := rfl
@[simp] theorem State.putFull_pbank (b : Bank) (e : Half) (v : Full) : (s.putFull b e v).pbank = s.pbank := rfl
@[simp] theorem State.putFull_obank (b : Bank) (e : Half) (v : Full) : (s.putFull b e v).obank = s.obank := rfl
@[simp] theorem State.putFull_carry (b : Bank) (e : Half) (v : Full) : (s.putFull b e v).carry = s.carry := rfl
@[simp] theorem State.setCentral_reg (c : Central) (q : Reg) : (s.setCentral c).reg q = s.reg q := rfl
@[simp] theorem State.setCentral_byteAt (c : Central) (k : Bank) (d : Half) : (s.setCentral c).byteAt k d = s.byteAt k d :=
    rfl
@[simp] theorem State.setCentral_halfAt (c : Central) (k : Bank) (d : Half) : (s.setCentral c).halfAt k d = s.halfAt k d :=
    rfl
@[simp] theorem State.setCentral_fullAt (c : Central) (k : Bank) (d : Half) : (s.setCentral c).fullAt k d = s.fullAt k d :=
    rfl
@[simp] theorem State.setCentral_present (c : Central) (x : Nat) : (s.setCentral c).present x = s.present x := rfl
@[simp] theorem State.setCentral_ps (c : Central) : (s.setCentral c).ps = s.ps := rfl
@[simp] theorem State.setCentral_prot (c : Central) : (s.setCentral c).prot = s.prot := rfl
@[simp] theorem State.setCentral_fde (c : Central) : (s.setCentral c).fde = s.fde := rfl
@[simp] theorem State.setCentral_fpe (c : Central) : (s.setCentral c).fpe = s.fpe := rfl
@[simp] theorem State.setCentral_pbank (c : Central) : (s.setCentral c).pbank = s.pbank := rfl
@[simp] theorem State.setCentral_obank (c : Central) : (s.setCentral c).obank = s.obank := rfl
@[simp] theorem State.setCentral_carry (c : Central) : (s.setCentral c).carry = s.carry := rfl
/-! Condition Code computations -/
@[simp] theorem State.setResultCC_regs {n : Nat} (c v : Bool) (r : BitVec n) : (s.setResultCC c v r).regs = s.regs :=
    rfl
@[simp] theorem State.setResultCC_control {n : Nat} (c v : Bool) (r : BitVec n) : (s.setResultCC c v r).control = s.control :=
    rfl
@[simp] theorem State.setResultCC_loc {n : Nat} (c v : Bool) (r : BitVec n) : (s.setResultCC c v r).loc = s.loc := rfl
@[simp] theorem State.setResultCC_mem {n : Nat} (c v : Bool) (r : BitVec n) : (s.setResultCC c v r).mem = s.mem := rfl
@[simp] theorem State.setResultCC_pending {n : Nat} (c v : Bool) (r : BitVec n) : (s.setResultCC c v r).pending = s.pending :=
    rfl
@[simp] theorem State.setResultCC_answers {n : Nat} (c v : Bool) (r : BitVec n) : (s.setResultCC c v r).answers = s.answers :=
    rfl
@[simp] theorem State.setResultCC_requests {n : Nat} (c v : Bool) (r : BitVec n) : (s.setResultCC c v r).requests = s.requests :=
    rfl
@[simp] theorem State.setResultCC_draws {n : Nat} (c v : Bool) (r : BitVec n) : (s.setResultCC c v r).draws = s.draws :=
    rfl
@[simp] theorem State.setResultCC_platform {n : Nat} (c v : Bool) (r : BitVec n) : (s.setResultCC c v r).platform = s.platform :=
    rfl
@[simp] theorem State.setResultCC_central {n : Nat} (c v : Bool) (r : BitVec n) : (s.setResultCC c v r).central = s.central :=
    rfl
@[simp] theorem State.setResultCC_active {n : Nat} (c v : Bool) (r : BitVec n) : (s.setResultCC c v r).active = s.active :=
    rfl
@[simp] theorem State.setResultCC_reg {n : Nat} (c v : Bool) (r : BitVec n) (q : Reg) : (s.setResultCC c v r).reg q = s.reg q :=
    rfl
@[simp] theorem State.setResultCC_byteAt {n : Nat} (c v : Bool) (r : BitVec n) (k : Bank) (d : Half) : (s.setResultCC c v r).byteAt k d = s.byteAt k d :=
    rfl
@[simp] theorem State.setResultCC_halfAt {n : Nat} (c v : Bool) (r : BitVec n) (k : Bank) (d : Half) : (s.setResultCC c v r).halfAt k d = s.halfAt k d :=
    rfl
@[simp] theorem State.setResultCC_fullAt {n : Nat} (c v : Bool) (r : BitVec n) (k : Bank) (d : Half) : (s.setResultCC c v r).fullAt k d = s.fullAt k d :=
    rfl
@[simp] theorem State.setResultCC_present {n : Nat} (c v : Bool) (r : BitVec n) (x : Nat) : (s.setResultCC c v r).present x = s.present x :=
    rfl
@[simp] theorem State.setResultCC_prot {n : Nat} (c v : Bool) (r : BitVec n) : (s.setResultCC c v r).prot = s.prot :=
    rfl
@[simp] theorem State.setResultCC_fde {n : Nat} (c v : Bool) (r : BitVec n) : (s.setResultCC c v r).fde = s.fde := rfl
@[simp] theorem State.setResultCC_fpe {n : Nat} (c v : Bool) (r : BitVec n) : (s.setResultCC c v r).fpe = s.fpe := rfl
@[simp] theorem State.setResultCC_pbank {n : Nat} (c v : Bool) (r : BitVec n) : (s.setResultCC c v r).pbank = s.pbank :=
    rfl
@[simp] theorem State.setResultCC_obank {n : Nat} (c v : Bool) (r : BitVec n) : (s.setResultCC c v r).obank = s.obank :=
    rfl

@[simp] theorem State.setLoadCC_regs (r : Half) : (s.setLoadCC r).regs = s.regs := rfl
@[simp] theorem State.setLoadCC_control (r : Half) : (s.setLoadCC r).control = s.control := rfl
@[simp] theorem State.setLoadCC_loc (r : Half) : (s.setLoadCC r).loc = s.loc := rfl
@[simp] theorem State.setLoadCC_mem (r : Half) : (s.setLoadCC r).mem = s.mem := rfl
@[simp] theorem State.setLoadCC_pending (r : Half) : (s.setLoadCC r).pending = s.pending := rfl
@[simp] theorem State.setLoadCC_answers (r : Half) : (s.setLoadCC r).answers = s.answers := rfl
@[simp] theorem State.setLoadCC_requests (r : Half) : (s.setLoadCC r).requests = s.requests := rfl
@[simp] theorem State.setLoadCC_platform (r : Half) : (s.setLoadCC r).platform = s.platform := rfl
@[simp] theorem State.setLoadCC_central (r : Half) : (s.setLoadCC r).central = s.central := rfl
@[simp] theorem State.setLoadCC_active (r : Half) : (s.setLoadCC r).active = s.active := rfl
@[simp] theorem State.setLoadCC_reg (r : Half) (q : Reg) : (s.setLoadCC r).reg q = s.reg q := rfl
@[simp] theorem State.setLoadCC_byteAt (r : Half) (k : Bank) (d : Half) : (s.setLoadCC r).byteAt k d = s.byteAt k d :=
    rfl
@[simp] theorem State.setLoadCC_halfAt (r : Half) (k : Bank) (d : Half) : (s.setLoadCC r).halfAt k d = s.halfAt k d :=
    rfl
@[simp] theorem State.setLoadCC_fullAt (r : Half) (k : Bank) (d : Half) : (s.setLoadCC r).fullAt k d = s.fullAt k d :=
    rfl
@[simp] theorem State.setLoadCC_present (r : Half) (x : Nat) : (s.setLoadCC r).present x = s.present x := rfl
@[simp] theorem State.setLoadCC_prot (r : Half) : (s.setLoadCC r).prot = s.prot := rfl
@[simp] theorem State.setLoadCC_fde (r : Half) : (s.setLoadCC r).fde = s.fde := rfl
@[simp] theorem State.setLoadCC_fpe (r : Half) : (s.setLoadCC r).fpe = s.fpe := rfl
@[simp] theorem State.setLoadCC_pbank (r : Half) : (s.setLoadCC r).pbank = s.pbank := rfl
@[simp] theorem State.setLoadCC_obank (r : Half) : (s.setLoadCC r).obank = s.obank := rfl

@[simp] theorem State.setArithCC_regs (r : Arith) : (s.setArithCC r).regs = s.regs := rfl
@[simp] theorem State.setArithCC_control (r : Arith) : (s.setArithCC r).control = s.control := rfl
@[simp] theorem State.setArithCC_loc (r : Arith) : (s.setArithCC r).loc = s.loc := rfl
@[simp] theorem State.setArithCC_mem (r : Arith) : (s.setArithCC r).mem = s.mem := rfl
@[simp] theorem State.setArithCC_pending (r : Arith) : (s.setArithCC r).pending = s.pending := rfl
@[simp] theorem State.setArithCC_answers (r : Arith) : (s.setArithCC r).answers = s.answers := rfl
@[simp] theorem State.setArithCC_requests (r : Arith) : (s.setArithCC r).requests = s.requests := rfl
@[simp] theorem State.setArithCC_draws (r : Arith) : (s.setArithCC r).draws = s.draws := rfl
@[simp] theorem State.setArithCC_platform (r : Arith) : (s.setArithCC r).platform = s.platform := rfl
@[simp] theorem State.setArithCC_central (r : Arith) : (s.setArithCC r).central = s.central := rfl
@[simp] theorem State.setArithCC_active (r : Arith) : (s.setArithCC r).active = s.active := rfl
@[simp] theorem State.setArithCC_reg (r : Arith) (q : Reg) : (s.setArithCC r).reg q = s.reg q := rfl
@[simp] theorem State.setArithCC_byteAt (r : Arith) (k : Bank) (d : Half) : (s.setArithCC r).byteAt k d = s.byteAt k d :=
    rfl
@[simp] theorem State.setArithCC_halfAt (r : Arith) (k : Bank) (d : Half) : (s.setArithCC r).halfAt k d = s.halfAt k d :=
    rfl
@[simp] theorem State.setArithCC_fullAt (r : Arith) (k : Bank) (d : Half) : (s.setArithCC r).fullAt k d = s.fullAt k d :=
    rfl
@[simp] theorem State.setArithCC_present (r : Arith) (x : Nat) : (s.setArithCC r).present x = s.present x := rfl
@[simp] theorem State.setArithCC_prot (r : Arith) : (s.setArithCC r).prot = s.prot := rfl
@[simp] theorem State.setArithCC_fde (r : Arith) : (s.setArithCC r).fde = s.fde := rfl
@[simp] theorem State.setArithCC_fpe (r : Arith) : (s.setArithCC r).fpe = s.fpe := rfl
@[simp] theorem State.setArithCC_pbank (r : Arith) : (s.setArithCC r).pbank = s.pbank := rfl
@[simp] theorem State.setArithCC_obank (r : Arith) : (s.setArithCC r).obank = s.obank := rfl

@[simp] theorem State.setLogicalCompareCC_regs {n : Nat} (a b : BitVec n) : (s.setLogicalCompareCC a b).regs = s.regs :=
    rfl
@[simp] theorem State.setLogicalCompareCC_control {n : Nat} (a b : BitVec n) : (s.setLogicalCompareCC a b).control = s.control :=
    rfl
@[simp] theorem State.setLogicalCompareCC_loc {n : Nat} (a b : BitVec n) : (s.setLogicalCompareCC a b).loc = s.loc :=
    rfl
@[simp] theorem State.setLogicalCompareCC_mem {n : Nat} (a b : BitVec n) : (s.setLogicalCompareCC a b).mem = s.mem :=
    rfl
@[simp] theorem State.setLogicalCompareCC_pending {n : Nat} (a b : BitVec n) : (s.setLogicalCompareCC a b).pending = s.pending :=
    rfl
@[simp] theorem State.setLogicalCompareCC_answers {n : Nat} (a b : BitVec n) : (s.setLogicalCompareCC a b).answers = s.answers :=
    rfl
@[simp] theorem State.setLogicalCompareCC_requests {n : Nat} (a b : BitVec n) : (s.setLogicalCompareCC a b).requests = s.requests :=
    rfl
@[simp] theorem State.setLogicalCompareCC_platform {n : Nat} (a b : BitVec n) : (s.setLogicalCompareCC a b).platform = s.platform :=
    rfl
@[simp] theorem State.setLogicalCompareCC_central {n : Nat} (a b : BitVec n) : (s.setLogicalCompareCC a b).central = s.central :=
    rfl
@[simp] theorem State.setLogicalCompareCC_active {n : Nat} (a b : BitVec n) : (s.setLogicalCompareCC a b).active = s.active :=
    rfl
@[simp] theorem State.setLogicalCompareCC_reg {n : Nat} (a b : BitVec n) (q : Reg) : (s.setLogicalCompareCC a b).reg q = s.reg q :=
    rfl
@[simp] theorem State.setLogicalCompareCC_byteAt {n : Nat} (a b : BitVec n) (k : Bank) (d : Half) : (s.setLogicalCompareCC a b).byteAt k d = s.byteAt k d :=
    rfl
@[simp] theorem State.setLogicalCompareCC_halfAt {n : Nat} (a b : BitVec n) (k : Bank) (d : Half) : (s.setLogicalCompareCC a b).halfAt k d = s.halfAt k d :=
    rfl
@[simp] theorem State.setLogicalCompareCC_fullAt {n : Nat} (a b : BitVec n) (k : Bank) (d : Half) : (s.setLogicalCompareCC a b).fullAt k d = s.fullAt k d :=
    rfl
@[simp] theorem State.setLogicalCompareCC_present {n : Nat} (a b : BitVec n) (x : Nat) : (s.setLogicalCompareCC a b).present x = s.present x :=
    rfl
@[simp] theorem State.setLogicalCompareCC_prot {n : Nat} (a b : BitVec n) : (s.setLogicalCompareCC a b).prot = s.prot :=
    rfl
@[simp] theorem State.setLogicalCompareCC_fde {n : Nat} (a b : BitVec n) : (s.setLogicalCompareCC a b).fde = s.fde :=
    rfl
@[simp] theorem State.setLogicalCompareCC_fpe {n : Nat} (a b : BitVec n) : (s.setLogicalCompareCC a b).fpe = s.fpe :=
    rfl
@[simp] theorem State.setLogicalCompareCC_pbank {n : Nat} (a b : BitVec n) : (s.setLogicalCompareCC a b).pbank = s.pbank :=
    rfl
@[simp] theorem State.setLogicalCompareCC_obank {n : Nat} (a b : BitVec n) : (s.setLogicalCompareCC a b).obank = s.obank :=
    rfl

@[simp] theorem State.setCompareCC_regs (a b : Half) : (s.setCompareCC a b).regs = s.regs := rfl
@[simp] theorem State.setCompareCC_control (a b : Half) : (s.setCompareCC a b).control = s.control := rfl
@[simp] theorem State.setCompareCC_loc (a b : Half) : (s.setCompareCC a b).loc = s.loc := rfl
@[simp] theorem State.setCompareCC_mem (a b : Half) : (s.setCompareCC a b).mem = s.mem := rfl
@[simp] theorem State.setCompareCC_pending (a b : Half) : (s.setCompareCC a b).pending = s.pending := rfl
@[simp] theorem State.setCompareCC_answers (a b : Half) : (s.setCompareCC a b).answers = s.answers := rfl
@[simp] theorem State.setCompareCC_requests (a b : Half) : (s.setCompareCC a b).requests = s.requests := rfl
@[simp] theorem State.setCompareCC_platform (a b : Half) : (s.setCompareCC a b).platform = s.platform := rfl
@[simp] theorem State.setCompareCC_central (a b : Half) : (s.setCompareCC a b).central = s.central := rfl
@[simp] theorem State.setCompareCC_active (a b : Half) : (s.setCompareCC a b).active = s.active := rfl
@[simp] theorem State.setCompareCC_reg (a b : Half) (q : Reg) : (s.setCompareCC a b).reg q = s.reg q := rfl
@[simp] theorem State.setCompareCC_byteAt (a b : Half) (k : Bank) (d : Half) : (s.setCompareCC a b).byteAt k d = s.byteAt k d :=
    rfl
@[simp] theorem State.setCompareCC_halfAt (a b : Half) (k : Bank) (d : Half) : (s.setCompareCC a b).halfAt k d = s.halfAt k d :=
    rfl
@[simp] theorem State.setCompareCC_fullAt (a b : Half) (k : Bank) (d : Half) : (s.setCompareCC a b).fullAt k d = s.fullAt k d :=
    rfl
@[simp] theorem State.setCompareCC_present (a b : Half) (x : Nat) : (s.setCompareCC a b).present x = s.present x :=
    rfl
@[simp] theorem State.setCompareCC_prot (a b : Half) : (s.setCompareCC a b).prot = s.prot := rfl
@[simp] theorem State.setCompareCC_fde (a b : Half) : (s.setCompareCC a b).fde = s.fde := rfl
@[simp] theorem State.setCompareCC_fpe (a b : Half) : (s.setCompareCC a b).fpe = s.fpe := rfl
@[simp] theorem State.setCompareCC_pbank (a b : Half) : (s.setCompareCC a b).pbank = s.pbank := rfl
@[simp] theorem State.setCompareCC_obank (a b : Half) : (s.setCompareCC a b).obank = s.obank := rfl

@[simp] theorem State.setRotateCC_regs (r : Full) : (s.setRotateCC r).regs = s.regs := rfl
@[simp] theorem State.setRotateCC_control (r : Full) : (s.setRotateCC r).control = s.control := rfl
@[simp] theorem State.setRotateCC_loc (r : Full) : (s.setRotateCC r).loc = s.loc := rfl
@[simp] theorem State.setRotateCC_mem (r : Full) : (s.setRotateCC r).mem = s.mem := rfl
@[simp] theorem State.setRotateCC_pending (r : Full) : (s.setRotateCC r).pending = s.pending := rfl
@[simp] theorem State.setRotateCC_answers (r : Full) : (s.setRotateCC r).answers = s.answers := rfl
@[simp] theorem State.setRotateCC_requests (r : Full) : (s.setRotateCC r).requests = s.requests := rfl
@[simp] theorem State.setRotateCC_draws (r : Full) : (s.setRotateCC r).draws = s.draws := rfl
@[simp] theorem State.setRotateCC_platform (r : Full) : (s.setRotateCC r).platform = s.platform := rfl
@[simp] theorem State.setRotateCC_central (r : Full) : (s.setRotateCC r).central = s.central := rfl
@[simp] theorem State.setRotateCC_active (r : Full) : (s.setRotateCC r).active = s.active := rfl
@[simp] theorem State.setRotateCC_reg (r : Full) (q : Reg) : (s.setRotateCC r).reg q = s.reg q := rfl
@[simp] theorem State.setRotateCC_byteAt (r : Full) (k : Bank) (d : Half) : (s.setRotateCC r).byteAt k d = s.byteAt k d :=
    rfl
@[simp] theorem State.setRotateCC_halfAt (r : Full) (k : Bank) (d : Half) : (s.setRotateCC r).halfAt k d = s.halfAt k d :=
    rfl
@[simp] theorem State.setRotateCC_fullAt (r : Full) (k : Bank) (d : Half) : (s.setRotateCC r).fullAt k d = s.fullAt k d :=
    rfl
@[simp] theorem State.setRotateCC_present (r : Full) (x : Nat) : (s.setRotateCC r).present x = s.present x := rfl
@[simp] theorem State.setRotateCC_prot (r : Full) : (s.setRotateCC r).prot = s.prot := rfl
@[simp] theorem State.setRotateCC_fde (r : Full) : (s.setRotateCC r).fde = s.fde := rfl
@[simp] theorem State.setRotateCC_fpe (r : Full) : (s.setRotateCC r).fpe = s.fpe := rfl
@[simp] theorem State.setRotateCC_pbank (r : Full) : (s.setRotateCC r).pbank = s.pbank := rfl
@[simp] theorem State.setRotateCC_obank (r : Full) : (s.setRotateCC r).obank = s.obank := rfl

@[simp] theorem State.setStatusCC_regs (st : Byte) : (s.setStatusCC st).regs = s.regs := rfl
@[simp] theorem State.setStatusCC_control (st : Byte) : (s.setStatusCC st).control = s.control := rfl
@[simp] theorem State.setStatusCC_loc (st : Byte) : (s.setStatusCC st).loc = s.loc := rfl
@[simp] theorem State.setStatusCC_mem (st : Byte) : (s.setStatusCC st).mem = s.mem := rfl
@[simp] theorem State.setStatusCC_pending (st : Byte) : (s.setStatusCC st).pending = s.pending := rfl
@[simp] theorem State.setStatusCC_answers (st : Byte) : (s.setStatusCC st).answers = s.answers := rfl
@[simp] theorem State.setStatusCC_requests (st : Byte) : (s.setStatusCC st).requests = s.requests := rfl
@[simp] theorem State.setStatusCC_draws (st : Byte) : (s.setStatusCC st).draws = s.draws := rfl
@[simp] theorem State.setStatusCC_platform (st : Byte) : (s.setStatusCC st).platform = s.platform := rfl
@[simp] theorem State.setStatusCC_central (st : Byte) : (s.setStatusCC st).central = s.central := rfl
@[simp] theorem State.setStatusCC_active (st : Byte) : (s.setStatusCC st).active = s.active := rfl
@[simp] theorem State.setStatusCC_reg (st : Byte) (q : Reg) : (s.setStatusCC st).reg q = s.reg q := rfl
@[simp] theorem State.setStatusCC_byteAt (st : Byte) (k : Bank) (d : Half) : (s.setStatusCC st).byteAt k d = s.byteAt k d :=
    rfl
@[simp] theorem State.setStatusCC_halfAt (st : Byte) (k : Bank) (d : Half) : (s.setStatusCC st).halfAt k d = s.halfAt k d :=
    rfl
@[simp] theorem State.setStatusCC_fullAt (st : Byte) (k : Bank) (d : Half) : (s.setStatusCC st).fullAt k d = s.fullAt k d :=
    rfl
@[simp] theorem State.setStatusCC_present (st : Byte) (x : Nat) : (s.setStatusCC st).present x = s.present x := rfl
@[simp] theorem State.setStatusCC_prot (st : Byte) : (s.setStatusCC st).prot = s.prot := rfl
@[simp] theorem State.setStatusCC_fde (st : Byte) : (s.setStatusCC st).fde = s.fde := rfl
@[simp] theorem State.setStatusCC_fpe (st : Byte) : (s.setStatusCC st).fpe = s.fpe := rfl
@[simp] theorem State.setStatusCC_pbank (st : Byte) : (s.setStatusCC st).pbank = s.pbank := rfl
@[simp] theorem State.setStatusCC_obank (st : Byte) : (s.setStatusCC st).obank = s.obank := rfl

@[simp] theorem State.setTransferCC_regs (v : Bool) : (s.setTransferCC v).regs = s.regs := rfl
@[simp] theorem State.setTransferCC_control (v : Bool) : (s.setTransferCC v).control = s.control := rfl
@[simp] theorem State.setTransferCC_loc (v : Bool) : (s.setTransferCC v).loc = s.loc := rfl
@[simp] theorem State.setTransferCC_mem (v : Bool) : (s.setTransferCC v).mem = s.mem := rfl
@[simp] theorem State.setTransferCC_pending (v : Bool) : (s.setTransferCC v).pending = s.pending := rfl
@[simp] theorem State.setTransferCC_answers (v : Bool) : (s.setTransferCC v).answers = s.answers := rfl
@[simp] theorem State.setTransferCC_requests (v : Bool) : (s.setTransferCC v).requests = s.requests := rfl
@[simp] theorem State.setTransferCC_platform (v : Bool) : (s.setTransferCC v).platform = s.platform := rfl
@[simp] theorem State.setTransferCC_central (v : Bool) : (s.setTransferCC v).central = s.central := rfl
@[simp] theorem State.setTransferCC_active (v : Bool) : (s.setTransferCC v).active = s.active := rfl
@[simp] theorem State.setTransferCC_reg (v : Bool) (q : Reg) : (s.setTransferCC v).reg q = s.reg q := rfl
@[simp] theorem State.setTransferCC_byteAt (v : Bool) (k : Bank) (d : Half) : (s.setTransferCC v).byteAt k d = s.byteAt k d :=
    rfl
@[simp] theorem State.setTransferCC_halfAt (v : Bool) (k : Bank) (d : Half) : (s.setTransferCC v).halfAt k d = s.halfAt k d :=
    rfl
@[simp] theorem State.setTransferCC_fullAt (v : Bool) (k : Bank) (d : Half) : (s.setTransferCC v).fullAt k d = s.fullAt k d :=
    rfl
@[simp] theorem State.setTransferCC_present (v : Bool) (x : Nat) : (s.setTransferCC v).present x = s.present x := rfl
@[simp] theorem State.setTransferCC_prot (v : Bool) : (s.setTransferCC v).prot = s.prot := rfl
@[simp] theorem State.setTransferCC_fde (v : Bool) : (s.setTransferCC v).fde = s.fde := rfl
@[simp] theorem State.setTransferCC_fpe (v : Bool) : (s.setTransferCC v).fpe = s.fpe := rfl
@[simp] theorem State.setTransferCC_pbank (v : Bool) : (s.setTransferCC v).pbank = s.pbank := rfl
@[simp] theorem State.setTransferCC_obank (v : Bool) : (s.setTransferCC v).obank = s.obank := rfl

@[simp] theorem State.setShiftCC_regs {w : Nat} (n : Nat) (out : Bool) (r : BitVec w) : (s.setShiftCC n out r).regs = s.regs := by
  unfold State.setShiftCC; split <;> rfl
@[simp] theorem State.setShiftCC_control {w : Nat} (n : Nat) (out : Bool) (r : BitVec w) : (s.setShiftCC n out r).control = s.control := by
  unfold State.setShiftCC; split <;> rfl
@[simp] theorem State.setShiftCC_loc {w : Nat} (n : Nat) (out : Bool) (r : BitVec w) : (s.setShiftCC n out r).loc = s.loc := by
  unfold State.setShiftCC; split <;> rfl
@[simp] theorem State.setShiftCC_mem {w : Nat} (n : Nat) (out : Bool) (r : BitVec w) : (s.setShiftCC n out r).mem = s.mem := by
  unfold State.setShiftCC; split <;> rfl
@[simp] theorem State.setShiftCC_pending {w : Nat} (n : Nat) (out : Bool) (r : BitVec w) : (s.setShiftCC n out r).pending = s.pending := by
  unfold State.setShiftCC; split <;> rfl
@[simp] theorem State.setShiftCC_answers {w : Nat} (n : Nat) (out : Bool) (r : BitVec w) : (s.setShiftCC n out r).answers = s.answers := by
  unfold State.setShiftCC; split <;> rfl
@[simp] theorem State.setShiftCC_requests {w : Nat} (n : Nat) (out : Bool) (r : BitVec w) : (s.setShiftCC n out r).requests = s.requests := by
  unfold State.setShiftCC; split <;> rfl
@[simp] theorem State.setShiftCC_platform {w : Nat} (n : Nat) (out : Bool) (r : BitVec w) : (s.setShiftCC n out r).platform = s.platform := by
  unfold State.setShiftCC; split <;> rfl
@[simp] theorem State.setShiftCC_central {w : Nat} (n : Nat) (out : Bool) (r : BitVec w) : (s.setShiftCC n out r).central = s.central := by
  unfold State.setShiftCC; split <;> rfl
@[simp] theorem State.setShiftCC_active {w : Nat} (n : Nat) (out : Bool) (r : BitVec w) : (s.setShiftCC n out r).active = s.active := by
  unfold State.setShiftCC; split <;> rfl
@[simp] theorem State.setShiftCC_reg {w : Nat} (n : Nat) (out : Bool) (v : BitVec w) (q : Reg) : (s.setShiftCC n out v).reg q = s.reg q := by
  unfold State.setShiftCC; split <;> rfl
@[simp] theorem State.setShiftCC_byteAt {w : Nat} (n : Nat) (out : Bool) (v : BitVec w) (k : Bank) (d : Half) : (s.setShiftCC n out v).byteAt k d = s.byteAt k d := by
  unfold State.setShiftCC; split <;> rfl
@[simp] theorem State.setShiftCC_halfAt {w : Nat} (n : Nat) (out : Bool) (v : BitVec w) (k : Bank) (d : Half) : (s.setShiftCC n out v).halfAt k d = s.halfAt k d := by
  unfold State.setShiftCC; split <;> rfl
@[simp] theorem State.setShiftCC_fullAt {w : Nat} (n : Nat) (out : Bool) (v : BitVec w) (k : Bank) (d : Half) : (s.setShiftCC n out v).fullAt k d = s.fullAt k d := by
  unfold State.setShiftCC; split <;> rfl
@[simp] theorem State.setShiftCC_present {w : Nat} (n : Nat) (out : Bool) (v : BitVec w) (x : Nat) : (s.setShiftCC n out v).present x = s.present x := by
  unfold State.setShiftCC; split <;> rfl
@[simp] theorem State.setShiftCC_prot {w : Nat} (n : Nat) (out : Bool) (v : BitVec w) : (s.setShiftCC n out v).prot = s.prot := by
  unfold State.setShiftCC; split <;> rfl
@[simp] theorem State.setShiftCC_fde {w : Nat} (n : Nat) (out : Bool) (v : BitVec w) : (s.setShiftCC n out v).fde = s.fde := by
  unfold State.setShiftCC; split <;> rfl
@[simp] theorem State.setShiftCC_fpe {w : Nat} (n : Nat) (out : Bool) (v : BitVec w) : (s.setShiftCC n out v).fpe = s.fpe := by
  unfold State.setShiftCC; split <;> rfl
@[simp] theorem State.setShiftCC_pbank {w : Nat} (n : Nat) (out : Bool) (v : BitVec w) : (s.setShiftCC n out v).pbank = s.pbank := by
  unfold State.setShiftCC; split <;> rfl
@[simp] theorem State.setShiftCC_obank {w : Nat} (n : Nat) (out : Bool) (v : BitVec w) : (s.setShiftCC n out v).obank = s.obank := by
  unfold State.setShiftCC; split <;> rfl

end Sys2Proof.Machine
end

