-- ==== Sys2Proof/Laws/Memory.lean ====
section
/-! SUPPORT. Sparse stores: what a read after a write gives, and that every memory operation keeps the canonical form.
Registers: what a read after a write gives. -/

namespace Sys2Proof.Machine

/-! Stores -/

theorem readStore_insertStore {α : Type} (d : α) (m : List (Nat × α)) (k j : Nat) (v : α)
    (fresh : ∀ c ∈ m, c.1 ≠ k) :
    readStore d (insertStore m k v) j = if k = j then v else readStore d m j := by
  induction m with
  | nil => rfl
  | cons c m ih =>
    simp only [List.mem_cons, forall_eq_or_imp] at fresh
    simp only [insertStore]
    split
    · simp [readStore]
    · simp only [readStore, ih fresh.2]
      by_cases h : c.1 = j
      · have : k ≠ j := fun e => fresh.1 (h.trans e.symm)
        simp [h, this]
      · simp [h]

theorem readStore_filter {α : Type} (d : α) (m : List (Nat × α)) (k j : Nat) :
    readStore d (m.filter fun c => c.1 != k) j = if k = j then d else readStore d m j := by
  induction m with
  | nil => simp [readStore]
  | cons c m ih =>
    by_cases h : c.1 = k
    · simp only [List.filter_cons, h, bne_self_eq_false, Bool.false_eq_true, if_false, ih, readStore]
      split <;> simp_all
    · simp only [List.filter_cons, bne_iff_ne, ne_eq, h, not_false_eq_true, if_true, readStore, ih]
      by_cases e : c.1 = j <;> simp_all
      intro e'
      exact absurd e'.symm h

/-- A read after a write: the value at the address written, every other address as before. -/
theorem readStore_writeStore {α : Type} [DecidableEq α] (d : α) (m : List (Nat × α)) (k j : Nat) (v : α) :
    readStore d (writeStore d m k v) j = if k = j then v else readStore d m j := by
  unfold writeStore
  split
  · rw [readStore_filter]; split <;> simp_all
  · rw [readStore_insertStore _ _ _ _ _ (by simp [List.mem_filter]), readStore_filter]
    split <;> rfl

theorem mem_insertStore {α : Type} (m : List (Nat × α)) (k : Nat) (v : α) (c : Nat × α) :
    c ∈ insertStore m k v ↔ c = (k, v) ∨ c ∈ m := by
  induction m with
  | nil => simp [insertStore]
  | cons b m ih =>
    simp only [insertStore]
    split
    · simp
    · simp only [List.mem_cons, ih]; tauto

theorem insertStore_pairwise {α : Type} (m : List (Nat × α)) (k : Nat) (v : α)
    (fresh : ∀ c ∈ m, c.1 ≠ k) (h : m.Pairwise fun a b => a.1 < b.1) :
    (insertStore m k v).Pairwise fun a b => a.1 < b.1 := by
  induction m with
  | nil => simp [insertStore]
  | cons c m ih =>
    rw [List.pairwise_cons] at h
    simp only [List.mem_cons, forall_eq_or_imp] at fresh
    simp only [insertStore]
    split
    · rename_i lt
      rw [List.pairwise_cons, List.pairwise_cons]
      refine ⟨fun b hb => ?_, h⟩
      rcases List.mem_cons.mp hb with rfl | hb
      · exact lt
      · exact Nat.lt_trans lt (h.1 b hb)
    · rw [List.pairwise_cons]
      refine ⟨fun b hb => ?_, ih fresh.2 h.2⟩
      rcases (mem_insertStore m k v b).mp hb with rfl | hb
      · have := fresh.1; simp only; omega
      · exact h.1 b hb

/-- A write keeps the canonical form. -/
theorem writeStore_wf {α : Type} [DecidableEq α] (d : α) (m : List (Nat × α)) (k : Nat) (v : α) (h : StoreWf d m) :
    StoreWf d (writeStore d m k v) := by
  have kept : StoreWf d (m.filter fun c => c.1 != k) :=
    ⟨h.1.filter _, fun c hc => h.2 c (List.mem_filter.mp hc).1⟩
  unfold writeStore
  split
  · exact kept
  · rename_i nv
    refine ⟨insertStore_pairwise _ _ _ (by simp [List.mem_filter]) kept.1, fun c hc => ?_⟩
    rcases (mem_insertStore _ _ _ c).mp hc with rfl | hc
    · exact nv
    · exact kept.2 c hc

theorem storeWf_nil {α : Type} (d : α) : StoreWf d ([] : List (Nat × α)) := ⟨List.Pairwise.nil, by simp⟩

/-! Main memory -/

theorem addr18_inj {b c : Bank} {e f : Half} (h : addr18 b e = addr18 c f) : b = c ∧ e = f := by
  unfold addr18 at h
  have := b.isLt; have := c.isLt; have := e.isLt; have := f.isLt
  constructor <;> apply BitVec.eq_of_toNat_eq <;> omega

/-- A byte read after a byte written. -/
theorem byteAt_putByte (s : State) (b c : Bank) (e f : Half) (v : Byte) :
    (s.putByte b e v).byteAt c f = if b = c ∧ e = f then v else s.byteAt c f := by
  unfold State.byteAt State.putByte readCell writeCell
  rw [readStore_writeStore]
  by_cases h : b = c ∧ e = f
  · obtain ⟨rfl, rfl⟩ := h; simp
  · rw [if_neg h, if_neg fun e => h (addr18_inj e)]

@[simp] theorem byteAt_putByte_self (s : State) (b : Bank) (e : Half) (v : Byte) :
    (s.putByte b e v).byteAt b e = v := by simp [byteAt_putByte]

/-- A byte read after a halfword written. -/
theorem byteAt_putHalf (s : State) (b c : Bank) (e f v : Half) :
    (s.putHalf b e v).byteAt c f =
      if b = c ∧ e + 1 = f then v.extractLsb' 0 8
      else if b = c ∧ e = f then v.extractLsb' 8 8 else s.byteAt c f := by
  unfold State.putHalf
  rw [byteAt_putByte, byteAt_putByte]

theorem half_split (v : Half) : v.extractLsb' 8 8 ++ v.extractLsb' 0 8 = v := by
  ext i hi
  simp only [BitVec.getElem_append, BitVec.getElem_extractLsb']
  split
  · simp [BitVec.getLsbD_eq_getElem (show i < 16 by omega)]
  · rename_i h
    rw [← BitVec.getLsbD_eq_getElem (by omega), show 8 + (i - 8) = i by omega]

/-- The halfword read back where one was written. -/
@[simp] theorem halfAt_putHalf_self (s : State) (b : Bank) (e v : Half) : (s.putHalf b e v).halfAt b e = v := by
  have : e + 1 ≠ e := by simp
  simp only [State.halfAt, byteAt_putHalf, this, and_false, if_false, and_true, if_true]
  simp [half_split]

/-- A halfword read where no byte of another halfword was written. -/
theorem halfAt_putHalf_ne (s : State) (b c : Bank) (e f v : Half)
    (h : b ≠ c ∨ (e ≠ f ∧ e + 1 ≠ f ∧ e ≠ f + 1)) : (s.putHalf b e v).halfAt c f = s.halfAt c f := by
  have h1 : ¬(b = c ∧ e + 1 = f) := by tauto
  have h2 : ¬(b = c ∧ e = f) := by tauto
  have h3 : ¬(b = c ∧ e = f + 1) := by tauto
  have h4 : ¬(b = c ∧ e + 1 = f + 1) := by
    rintro ⟨rfl, x⟩
    exact h2 ⟨rfl, by simpa using x⟩
  simp only [State.halfAt, byteAt_putHalf, h1, h2, h3, h4, if_false]

theorem full_split (v : Full) : v.extractLsb' 16 16 ++ v.extractLsb' 0 16 = v := by
  ext i hi
  simp only [BitVec.getElem_append, BitVec.getElem_extractLsb']
  split
  · simp [BitVec.getLsbD_eq_getElem (show i < 32 by omega)]
  · rename_i h
    rw [← BitVec.getLsbD_eq_getElem (by omega), show 16 + (i - 16) = i by omega]

/-- The fullword read back where one was written. -/
@[simp] theorem fullAt_putFull_self (s : State) (b : Bank) (e : Half) (v : Full) :
    (s.putFull b e v).fullAt b e = v := by
  have h : (s.putFull b e v).halfAt b e = v.extractLsb' 16 16 := by
    unfold State.putFull
    rw [halfAt_putHalf_ne _ _ _ _ _ _ (Or.inr ?_), halfAt_putHalf_self]
    refine ⟨?_, ?_, ?_⟩ <;> bv_omega
  have l : (s.putFull b e v).halfAt b (e + 2) = v.extractLsb' 0 16 := by
    unfold State.putFull
    exact halfAt_putHalf_self _ _ _ _
  simp only [State.fullAt, h, l, full_split]

/-! Canonical form -/

theorem putByte_wf (s : State) (b : Bank) (e : Half) (v : Byte) (h : s.mem.wf) : (s.putByte b e v).mem.wf :=
  writeStore_wf _ _ _ _ h

theorem putHalf_wf (s : State) (b : Bank) (e v : Half) (h : s.mem.wf) : (s.putHalf b e v).mem.wf :=
  putByte_wf _ _ _ _ (putByte_wf _ _ _ _ h)

theorem putFull_wf (s : State) (b : Bank) (e : Half) (v : Full) (h : s.mem.wf) : (s.putFull b e v).mem.wf :=
  putHalf_wf _ _ _ _ (putHalf_wf _ _ _ _ h)

theorem reset_memory_wf : State.reset.mem.wf := storeWf_nil _

/-! General registers -/

/-- A register read after a register written. -/
theorem reg_setReg (s : State) (r q : Reg) (v : Half) : (s.setReg r v).reg q = if r = q then v else s.reg q := by
  unfold State.reg State.setReg
  simp only [Vector.getElem_set]
  by_cases h : r = q
  · simp [h]
  · have : r.val ≠ q.val := fun e => h (Fin.ext e)
    simp [h, this]

@[simp] theorem reg_setReg_self (s : State) (r : Reg) (v : Half) : (s.setReg r v).reg r = v := by simp [reg_setReg]

/-- A register read after a pair written. -/
theorem reg_setPair (s : State) (r q : Reg) (v : Full) :
    (s.setPair r v).reg q =
      if r + 1 = q then v.extractLsb' 0 16 else if r = q then v.extractLsb' 16 16 else s.reg q := by
  unfold State.setPair
  rw [reg_setReg, reg_setReg]

end Sys2Proof.Machine
end

