-- ==== Sys2Proof/Laws/Central.lean ====
section
/-! SUPPORT. The annex machine: its memory, its registers, and what each shared operation answers. Every operation
answers a next state, and one that touches the annex machine only. -/

namespace Sys2Proof.Machine

/-! Memory and registers -/

/-- A word read after a word written. -/
theorem word_putWord (c : Central) (a b v : CWord) : (c.putWord a v).word b = if a = b then v else c.word b := by
  unfold Central.word Central.putWord
  rw [readStore_writeStore]
  by_cases h : a = b
  · simp [h]
  · rw [if_neg h, if_neg fun e => h (BitVec.eq_of_toNat_eq e)]

@[simp] theorem word_putWord_self (c : Central) (a v : CWord) : (c.putWord a v).word a = v := by simp [word_putWord]

/-- A write keeps the canonical form of the annex memory. -/
theorem putWord_wf (c : Central) (a v : CWord) (h : StoreWf 0 c.mem) : StoreWf 0 (c.putWord a v).mem :=
  writeStore_wf _ _ _ _ h

/-- An index register read after an index register written. -/
theorem indexValue_setIndex (c : Central) (r k : BitVec 4) (v : CWord) :
    (c.setIndex r v).indexValue k = if r = k ∧ 1 ≤ r.toNat ∧ r.toNat ≤ 12 then v else c.indexValue k := by
  unfold Central.setIndex
  by_cases h : 1 ≤ r.toNat ∧ r.toNat ≤ 12
  · rw [dif_pos h]
    unfold Central.indexValue
    by_cases hk : 1 ≤ k.toNat ∧ k.toNat ≤ 12
    · simp only [dif_pos hk, Vector.getElem_set]
      by_cases e : r = k
      · subst e; simp [h]
      · have : r.toNat - 1 ≠ k.toNat - 1 := fun x => e (BitVec.eq_of_toNat_eq (by omega))
        simp [e, this]
    · have : r ≠ k := fun e => hk (e ▸ h)
      simp [dif_neg hk, this]
  · rw [dif_neg h, if_neg fun x => h x.2]

/-- Writing an index register leaves the rest of the annex machine. -/
theorem setIndex_eq (c : Central) (r : BitVec 4) (v : CWord) :
    c.setIndex r v = { c with index := (c.setIndex r v).index } := by
  unfold Central.setIndex
  split <;> rfl

/-- The magnitude and the sign of a word put together. -/
theorem mag_signMag (sign : Bool) (m : Nat) : mag (signMag sign m) = m % 2 ^ 17 := by
  have : (signMag sign m).extractLsb' 0 17 = BitVec.ofNat 17 m :=
    BitVec.extractLsb'_append_eq_right (a := BitVec.ofBool sign) (b := BitVec.ofNat 17 m)
  simp only [mag, this, BitVec.toNat_ofNat]

theorem sgn_signMag (sign : Bool) (m : Nat) : sgn (signMag sign m) = sign := by
  show (BitVec.ofBool sign ++ BitVec.ofNat 17 m : BitVec (1 + 17)).msb = sign
  rw [BitVec.msb_append]
  cases sign <;> simp

/-- A word is its sign and its magnitude. -/
theorem signMag_eq (w : CWord) : signMag (sgn w) (mag w) = w := by
  apply BitVec.eq_of_toNat_eq
  have h := w.isLt
  have e : (signMag (sgn w) (mag w)).toNat = (BitVec.ofBool (sgn w)).toNat <<< 17 ||| (BitVec.ofNat 17 (mag w)).toNat :=
    BitVec.toNat_append ..
  rw [e, ← Nat.shiftLeft_add_eq_or_of_lt (BitVec.isLt _), Nat.shiftLeft_eq]
  simp only [sgn, mag, BitVec.toNat_ofBool, BitVec.toNat_ofNat, BitVec.extractLsb'_toNat, Nat.shiftRight_zero,
    BitVec.msb_eq_decide]
  by_cases c : 2 ^ 17 ≤ w.toNat
  · have : (decide (2 ^ (18 - 1) ≤ w.toNat)).toNat = 1 := by simpa using c
    omega
  · have : (decide (2 ^ (18 - 1) ≤ w.toNat)).toNat = 0 := by simpa using c
    omega

theorem mag_lt (w : CWord) : mag w < 2 ^ 17 := (w.extractLsb' 0 17).isLt

/-! Shared operations -/

/-- A conditional transfer: control to a free address, or the next instruction in sequence. -/
theorem centralTransfer_eq (taken : Bool) (r : BitVec 4) (y : BitVec 9) (s : State) :
    centralTransfer taken r y s =
      if taken then .next ((s.drawn 1).setCentral { s.central with pc := Config.centralLocation s.draws r y })
      else .next (s.setCentral { s.central with pc := s.central.pc + 1 }) := by
  unfold centralTransfer
  cases taken <;> rfl

/-- An operation on the word at the location specified by Y and R. -/
theorem withWord_eq (r : BitVec 4) (y : BitVec 9) (s : State) (k : CWord → State → Result) :
    withWord r y s k = k (s.central.word (Config.centralLocation s.draws r y)) (s.drawn 1) := rfl

/-- Each of the 256 page registers is addressed by some accumulator value (49 R500, R501). -/
theorem centralPage_surjective (p : BitVec 8) : ∃ a : CWord, Config.centralPage a = p := by
  let place : Fin 18 → Bool := fun j =>
    if h : (Config.centralPageBits.symm j).val < 8 then p.getLsbD (Config.centralPageBits.symm j).val else false
  refine ⟨BitVec.ofFnLE place, ?_⟩
  apply BitVec.eq_of_getLsbD_eq
  intro i hi
  have at18 (j : Fin 18) : (BitVec.ofFnLE place).getLsbD j.val = place j := by
    rw [BitVec.getLsbD, BitVec.toNat_ofFnLE, Nat.testBit_ofBits_lt _ _ j.isLt]
  rw [Config.centralPage, BitVec.getLsbD, BitVec.toNat_ofFnLE, Nat.testBit_ofBits_lt _ _ hi, at18]
  simp [place, hi]

/-- The illegal instruction operation: the indicator is set, and either the next instruction follows or the machine
restarts at location zero with T written. -/
theorem centralIllegal_next {s t : State} (h : centralIllegal s = .next t) :
    t.central = { s.central with illegalIndicator := true, pc := t.central.pc, tRegister := t.central.tRegister } ∧
      (s.central.restartEnabled = true → t.central.pc = 0) ∧
      (s.central.restartEnabled = false → t.central.pc = s.central.pc + 1 ∧
        t.central.tRegister = s.central.tRegister) := by
  unfold centralIllegal at h
  simp only at h
  split at h
  · rename_i e
    cases h
    exact ⟨rfl, fun _ => rfl, fun f => absurd e (by simp [f])⟩
  · rename_i e
    cases h
    exact ⟨rfl, fun f => absurd f e, fun _ => ⟨rfl, rfl⟩⟩

/-- A shift: an R field above 12 is an illegal instruction operation; otherwise the next instruction follows. -/
theorem centralShift_eq (r : BitVec 4) (k : BitVec 6) (s : State) (f : Nat → Central → Central) :
    centralShift r k s f =
      if 13 ≤ r.toNat then centralIllegal s
      else .next (s.setCentral (f ((k.toNat + (s.central.indexValue r).toNat) % 64) s.central).sequence) := rfl

/-- A serial operation: nothing but the next instruction when the Console Not Busy Indicator is off. -/
theorem whenNotBusy_eq (s : State) (k : Result) :
    whenNotBusy s k =
      if s.central.consoleNotBusy then k else .next (s.setCentral { s.central with pc := s.central.pc + 1 }) := rfl

/-- The end of an add or subtract: the exact sum when it fits, a zero keeping the old sign. -/
theorem centralSum_eq (v : Int) (s : State) :
    centralSum v s =
      if v.natAbs < 2 ^ 17 then
        .next (s.setCentral { s.central with
          pc := s.central.pc + 1, acc := signMag (if v = 0 then sgn s.central.acc else decide (v < 0)) v.natAbs })
      else
        .next ((s.drawn 1).setCentral { s.central with
          pc := s.central.pc + 1, acc := Config.centralWord s.draws, overflow := true }) := by
  unfold centralSum
  split <;> rfl

end Sys2Proof.Machine
end

