-- ==== Sys2Proof/Laws/Ops.lean ====
section
/-! SUPPORT. What each shared operation answers: one lemma for an access that is ready, one that says once everything
an operation can do when it answers a next state. -/

namespace Sys2Proof.Machine

open Sys2Proof.Safety

/-! attempt -/

@[simp] theorem attempt_ok {α : Type} (a : α) (k : α → Result) : attempt (.ok a) k = k a := rfl

@[simp] theorem attempt_error {α : Type} (f : Fault) (k : α → Result) : attempt (.error f) k = .fault f := rfl

/-- An attempt that answers a next state had a value and went on with it. -/
theorem attempt_next {α : Type} {r : Except Fault α} {k : α → Result} {t : State} (h : attempt r k = .next t) :
    ∃ a, r = .ok a ∧ k a = .next t := by
  cases r with
  | ok a => exact ⟨a, rfl, h⟩
  | error f => cases h

/-! Accesses that are ready -/

theorem readByte_ready {s : State} {b : Bank} {e : Half} (h : ByteReady s b e) :
    s.readByte b e = .ok (s.byteAt b e) := by
  simp only [ByteReady] at h
  simp [State.readByte, State.checkByte, h, Except.map]

theorem writeByte_ready {s : State} {b : Bank} {e : Half} (v : Byte) (h : ByteReady s b e) :
    s.writeByte b e v = .ok (s.putByte b e v) := by
  simp only [ByteReady] at h
  simp [State.writeByte, State.checkByte, h, Except.map]

theorem checkHalf_ready {s : State} {b : Bank} {e : Half} (h : HalfReady s b e) : s.checkHalf b e = .ok () := by
  obtain ⟨even, low, high⟩ := h
  simp only [ByteReady] at low high
  simp only [State.checkHalf, even, low, high, Bool.and_self, if_true, Bool.false_eq_true, if_false]

theorem readHalf_ready {s : State} {b : Bank} {e : Half} (h : HalfReady s b e) :
    s.readHalf b e = .ok (s.halfAt b e) := by simp [State.readHalf, checkHalf_ready h, Except.map]

theorem writeHalf_ready {s : State} {b : Bank} {e : Half} (v : Half) (h : HalfReady s b e) :
    s.writeHalf b e v = .ok (s.putHalf b e v) := by simp [State.writeHalf, checkHalf_ready h, Except.map]

theorem readFull_ready {s : State} {b : Bank} {e : Half} (h : FullReady s b e) :
    s.readFull b e = .ok (s.fullAt b e) := by
  simp only [State.readFull, State.checkFull, checkHalf_ready h.1, checkHalf_ready h.2, Except.map]

theorem writeFull_ready {s : State} {b : Bank} {e : Half} (v : Full) (h : FullReady s b e) :
    s.writeFull b e v = .ok (s.putFull b e v) := by
  simp only [State.writeFull, State.checkFull, checkHalf_ready h.1, checkHalf_ready h.2, Except.map]

/-! Accesses that fault -/

theorem checkHalf_odd {s : State} {b : Bank} {e : Half} (h : e.getLsbD 0 = true) :
    s.checkHalf b e = .error .misaligned := by simp only [State.checkHalf, h, if_true]

theorem checkHalf_absent {s : State} {b : Bank} {e : Half} (even : e.getLsbD 0 = false)
    (h : ¬ByteReady s b e) : s.checkHalf b e = .error .noMemory := by
  simp only [ByteReady, Bool.not_eq_true] at h
  simp only [State.checkHalf, even, h, Bool.false_and, Bool.false_eq_true, if_false]

/-! Accesses that answered -/

theorem readByte_ok {s : State} {b : Bank} {e : Half} {v : Byte} (h : s.readByte b e = .ok v) :
    v = s.byteAt b e ∧ ByteReady s b e := by
  unfold State.readByte State.checkByte at h
  split at h
  · rename_i p; cases h; exact ⟨rfl, p⟩
  · cases h

theorem writeByte_ok {s t : State} {b : Bank} {e : Half} {v : Byte} (h : s.writeByte b e v = .ok t) :
    t = s.putByte b e v ∧ ByteReady s b e := by
  unfold State.writeByte State.checkByte at h
  split at h
  · rename_i p; cases h; exact ⟨rfl, p⟩
  · cases h

theorem checkHalf_ok {s : State} {b : Bank} {e : Half} (h : s.checkHalf b e = .ok ()) : HalfReady s b e := by
  unfold State.checkHalf at h
  split at h
  · cases h
  · rename_i even
    split at h
    · rename_i p
      rw [Bool.and_eq_true] at p
      exact ⟨by simpa using even, p.1, p.2⟩
    · cases h

theorem readHalf_ok {s : State} {b : Bank} {e v : Half} (h : s.readHalf b e = .ok v) :
    v = s.halfAt b e ∧ HalfReady s b e := by
  unfold State.readHalf at h
  cases c : s.checkHalf b e with
  | ok u => rw [c] at h; cases h; exact ⟨rfl, checkHalf_ok c⟩
  | error f => rw [c] at h; cases h

theorem writeHalf_ok {s t : State} {b : Bank} {e v : Half} (h : s.writeHalf b e v = .ok t) :
    t = s.putHalf b e v ∧ HalfReady s b e := by
  unfold State.writeHalf at h
  cases c : s.checkHalf b e with
  | ok u => rw [c] at h; cases h; exact ⟨rfl, checkHalf_ok c⟩
  | error f => rw [c] at h; cases h

theorem checkFull_ok {s : State} {b : Bank} {e : Half} (h : s.checkFull b e = .ok ()) : FullReady s b e := by
  unfold State.checkFull at h
  split at h
  · rename_i u c; exact ⟨checkHalf_ok c, checkHalf_ok h⟩
  · cases h

theorem readFull_ok {s : State} {b : Bank} {e : Half} {v : Full} (h : s.readFull b e = .ok v) :
    v = s.fullAt b e ∧ FullReady s b e := by
  unfold State.readFull at h
  cases c : s.checkFull b e with
  | ok u => rw [c] at h; cases h; exact ⟨rfl, checkFull_ok c⟩
  | error f => rw [c] at h; cases h

theorem writeFull_ok {s t : State} {b : Bank} {e : Half} {v : Full} (h : s.writeFull b e v = .ok t) :
    t = s.putFull b e v ∧ FullReady s b e := by
  unfold State.writeFull at h
  cases c : s.checkFull b e with
  | ok u => rw [c] at h; cases h; exact ⟨rfl, checkFull_ok c⟩
  | error f => rw [c] at h; cases h

/-! Readiness depends on the platform alone -/

theorem byteReady_congr {s t : State} (h : t.platform = s.platform) (b : Bank) (e : Half) :
    ByteReady t b e ↔ ByteReady s b e := by simp [ByteReady, State.present, h]

theorem halfReady_congr {s t : State} (h : t.platform = s.platform) (b : Bank) (e : Half) :
    HalfReady t b e ↔ HalfReady s b e := by simp [HalfReady, byteReady_congr h]

theorem fullReady_congr {s t : State} (h : t.platform = s.platform) (b : Bank) (e : Half) :
    FullReady t b e ↔ FullReady s b e := by simp [FullReady, halfReady_congr h]

/-! Sequences of accesses -/

/-- Successive halfword writes change nothing but memory and keep its canonical form. -/
theorem writeHalves_ok {b : Bank} (vs : List Half) {s t : State} {e : Half} (h : s.writeHalves b e vs = .ok t) :
    t = { s with mem := t.mem } ∧ (s.mem.wf → t.mem.wf) := by
  induction vs generalizing s e with
  | nil => cases h; exact ⟨rfl, id⟩
  | cons v vs ih =>
    unfold State.writeHalves at h
    split at h
    · rename_i u c
      obtain ⟨rfl, -⟩ := writeHalf_ok c
      obtain ⟨eq, wf⟩ := ih h
      exact ⟨by rw [eq]; rfl, fun w => wf (putHalf_wf _ _ _ _ w)⟩
    · cases h

/-- Successive byte writes change nothing but memory and keep its canonical form. -/
theorem writeBytes_ok {b : Bank} (vs : List Byte) {s t : State} {e : Half} (h : s.writeBytes b e vs = .ok t) :
    t = { s with mem := t.mem } ∧ (s.mem.wf → t.mem.wf) := by
  induction vs generalizing s e with
  | nil => cases h; exact ⟨rfl, id⟩
  | cons v vs ih =>
    unfold State.writeBytes at h
    split at h
    · rename_i u c
      obtain ⟨rfl, -⟩ := writeByte_ok c
      obtain ⟨eq, wf⟩ := ih h
      exact ⟨by rw [eq]; rfl, fun w => wf (putByte_wf _ _ _ _ w)⟩
    · cases h

/-! Accesses that stop -/

theorem checkHalf_fails {s : State} {b : Bank} {e : Half} :
    (e.getLsbD 0 = true → s.checkHalf b e = .error .misaligned) ∧
      (e.getLsbD 0 = false → ¬HalfReady s b e → s.checkHalf b e = .error .noMemory) := by
  unfold HalfReady ByteReady State.checkHalf
  refine ⟨fun h => by simp [h], fun h n => ?_⟩
  simp only [h] at n ⊢
  by_cases p : s.present (addr18 b e) = true <;> by_cases q : s.present (addr18 b (e + 1)) = true <;> simp_all

theorem checkFull_fails {s : State} {b : Bank} {e : Half} :
    (e.getLsbD 0 = true → s.checkFull b e = .error .misaligned) ∧
      (e.getLsbD 0 = false → ¬FullReady s b e → s.checkFull b e = .error .noMemory) := by
  have even : (e + 2).getLsbD 0 = e.getLsbD 0 := by simp [BitVec.getLsbD, Nat.testBit_zero]
  unfold State.checkFull
  refine ⟨fun h => by simp [checkHalf_fails.1 h], fun h n => ?_⟩
  by_cases p : HalfReady s b e
  · have q : ¬HalfReady s b (e + 2) := fun q => n ⟨p, q⟩
    have ok : s.checkHalf b e = .ok () := by unfold State.checkHalf; simp_all [HalfReady, ByteReady]
    simp only [ok]
    exact checkHalf_fails.2 (even.trans h) q
  · simp [checkHalf_fails.2 h p]

/-- A halfword read stops at an odd address and where it does not find memory. -/
theorem readHalf_needs {s : State} {b : Bank} {e : Half} (k : Half → Result) :
    Needs (attempt (s.readHalf b e) k) e (HalfReady s b e) :=
  ⟨fun h => by simp [State.readHalf, checkHalf_fails.1 h, attempt, Except.map],
    fun h n => by simp [State.readHalf, checkHalf_fails.2 h n, attempt, Except.map]⟩

/-- A halfword write stops at an odd address and where it does not find memory. -/
theorem writeHalf_needs {s : State} {b : Bank} {e v : Half} (k : State → Result) :
    Needs (attempt (s.writeHalf b e v) k) e (HalfReady s b e) :=
  ⟨fun h => by simp [State.writeHalf, checkHalf_fails.1 h, attempt, Except.map],
    fun h n => by simp [State.writeHalf, checkHalf_fails.2 h n, attempt, Except.map]⟩

/-- A fullword read stops at an odd address and where it does not find memory. -/
theorem readFull_needs {s : State} {b : Bank} {e : Half} (k : Full → Result) :
    Needs (attempt (s.readFull b e) k) e (FullReady s b e) :=
  ⟨fun h => by simp [State.readFull, checkFull_fails.1 h, attempt, Except.map],
    fun h n => by simp [State.readFull, checkFull_fails.2 h n, attempt, Except.map]⟩

/-- A fullword write stops at an odd address and where it does not find memory. -/
theorem writeFull_needs {s : State} {b : Bank} {e : Half} {v : Full} (k : State → Result) :
    Needs (attempt (s.writeFull b e v) k) e (FullReady s b e) :=
  ⟨fun h => by simp [State.writeFull, checkFull_fails.1 h, attempt, Except.map],
    fun h n => by simp [State.writeFull, checkFull_fails.2 h n, attempt, Except.map]⟩

/-! Interrupts -/

/-- A Program Status Word exchange that answers a next state: the Old PSW is stored, then the New PSW loaded. -/
theorem exchangePsw_next {old new saved : Half} {s t : State} (h : exchangePsw old new saved s = .next t) :
    let u := s.putFull 0 old (s.ps ++ saved)
    t = u.setPsw (u.fullAt 0 new) := by
  obtain ⟨u, hu, h⟩ := attempt_next h
  obtain ⟨w, hw, h⟩ := attempt_next h
  obtain ⟨rfl, -⟩ := writeFull_ok hu
  obtain ⟨rfl, -⟩ := readFull_ok hw
  cases h
  rfl

theorem raiseSaving_next {k : Interrupt} {saved : Half} {s t : State} (h : raiseSaving k saved s = .next t) :
    let u := s.putFull 0 (s.platform.vector k).old (s.ps ++ saved)
    t = u.setPsw (u.fullAt 0 (s.platform.vector k).new) := exchangePsw_next h

/-- What an exchange answers when its two locations find memory. -/
theorem exchangePsw_ready {old new : Half} (saved : Half) {s : State} (ho : FullReady s 0 old) (hn : FullReady s 0 new) :
    let u := s.putFull 0 old (s.ps ++ saved)
    exchangePsw old new saved s = .next (u.setPsw (u.fullAt 0 new)) := by
  have ready : FullReady (s.putFull 0 old (s.ps ++ saved)) 0 new := (fullReady_congr rfl _ _).mpr hn
  simp only [exchangePsw, writeFull_ready _ ho, attempt_ok, readFull_ready ready]

/-- What raising an interrupt answers when its two PSW locations find memory. -/
theorem raiseSaving_ready {k : Interrupt} (saved : Half) {s : State} (h : VectorReady s k) :
    let u := s.putFull 0 (s.platform.vector k).old (s.ps ++ saved)
    raiseSaving k saved s = .next (u.setPsw (u.fullAt 0 (s.platform.vector k).new)) := exchangePsw_ready saved h.1 h.2

/-- A device service that answers a next state: an exchange, of the class or at an entry of the Service Pointer Table, or
the platform's own service. -/
theorem deviceService_next {absent : Refusal} {dev : Byte} {s t : State} (h : deviceService absent dev s = .next t) :
    (∃ old new, exchangePsw old new s.loc s = .next t) ∨ suppliedService dev s = .next t := by
  unfold deviceService at h
  split at h
  · cases h
  · exact .inl ⟨_, _, h⟩
  · obtain ⟨entry, -, h⟩ := attempt_next h
    split at h
    · exact .inl ⟨_, _, h⟩
    · exact .inr h
  · exact .inr h

/-- Writes at addresses of their own change nothing but memory, in installed memory only, and keep its canonical form. -/
theorem writeEach_ok (l : List (Bank × Half × Byte)) {s t : State} (h : s.writeEach l = .ok t) :
    t = { s with mem := t.mem } ∧ (s.mem.wf → t.mem.wf) ∧ ∀ x ∈ l, ByteReady s x.1 x.2.1 := by
  induction l generalizing s with
  | nil => cases h; exact ⟨rfl, id, by simp⟩
  | cons x l ih =>
    unfold State.writeEach at h
    split at h
    · rename_i u c
      obtain ⟨rfl, ready⟩ := writeByte_ok c
      obtain ⟨eq, wf, rest⟩ := ih h
      exact ⟨by rw [eq]; rfl, fun w => wf (putByte_wf _ _ _ _ w),
        List.forall_mem_cons.mpr ⟨ready, fun y hy => rest y hy⟩⟩
    · cases h

/-- A platform's own service keeps what it may not touch, stores in installed memory only, and keeps the canonical form
of memory. -/
theorem suppliedService_next {dev : Byte} {s t : State} (h : suppliedService dev s = .next t) :
    t.platform = s.platform ∧ t.central = s.central ∧ t.active = s.active ∧ t.answers = s.answers ∧
      t.requests = s.requests ∧ t.pending = s.pending ∧ t.draws = s.draws + 1 ∧ (s.mem.wf → t.mem.wf) ∧
      ∀ x ∈ (Config.deviceService dev s.draws).stores, ByteReady s x.1 x.2.1 := by
  obtain ⟨u, hu, h⟩ := attempt_next h
  obtain ⟨eq, wf, ready⟩ := writeEach_ok _ hu
  cases h
  refine ⟨?_, ?_, ?_, ?_, ?_, ?_, ?_, wf, ready⟩ <;> (simp only [State.setPsw, State.setPs, State.setLoc]; rw [eq]; rfl)

/-- An acknowledgement that is no time-out names a device that requests an interrupt, the answer's where that does. -/
theorem acknowledgement_device {pending : List Byte} {a : DeviceAnswer}
    (h : (acknowledgement pending a).timeout = false) :
    a.timeout = false ∧ (acknowledgement pending a).device ∈ pending ∧
      (a.device ∈ pending → acknowledgement pending a = a) := by
  unfold acknowledgement at *
  split at h
  · cases h
  · split at h <;> simp_all

/-- Without a request an acknowledgement is a time-out. -/
theorem acknowledgement_timeout (pending : List Byte) (a : DeviceAnswer) :
    (acknowledgement pending a).timeout = (a.timeout || pending.isEmpty) := by
  unfold acknowledgement
  split
  · simp
  · split <;> simp

/-- After an acknowledgement R1 holds the number or, on a time-out, may be as before; nothing else changes. -/
theorem takeNumber_cases (s : State) (r1 : Reg) (a : DeviceAnswer) :
    ∃ v, s.takeNumber r1 a = (s.setReg r1 v).drawn a.timeout.toNat ∧
      (v = zextByte a.device ∨ a.timeout = true ∧ v = s.reg r1) := by
  refine ⟨_, rfl, ?_⟩
  cases a.timeout <;> cases s.freeBit 0 <;> simp

/-- A privileged instruction that answers a next state had its effect in Supervisor Mode or took the Illegal
Instruction Interrupt in Protect Mode. -/
theorem privileged_next {len : Half} {s t : State} {k : Result} (h : privileged len s k = .next t) :
    (s.prot = true ∧ raise .illegalInstruction len s = .next t) ∨ (s.prot = false ∧ k = .next t) := by
  unfold privileged at h
  split at h
  · rename_i p; exact Or.inl ⟨p, h⟩
  · rename_i p; exact Or.inr ⟨by simpa using p, h⟩

theorem privileged_supervisor {len : Half} {s : State} (k : Result) (h : s.prot = false) :
    privileged len s k = k := by simp [privileged, h]

/-- The return: all of the PSW from the fullword, nothing else. -/
theorem loadPsw_next {e : Half} {s t : State} (h : loadPsw e s = .next t) :
    t = s.setPsw (s.fullAt s.obank e) := by
  obtain ⟨w, hw, h⟩ := attempt_next h
  obtain ⟨rfl, -⟩ := readFull_ok hw
  cases h
  rfl

/-- A floating-point instruction's end: the next instruction, or the fault when it is caused and enabled. -/
theorem fpEnd_next {len : Half} {fault : Bool} {s t : State} (h : fpEnd len fault s = .next t) :
    t = s.advance len ∨ (s.fpe = true ∧ raise .floatingPointFault len s = .next t) := by
  unfold fpEnd at h
  split at h
  · rename_i p
    rw [Bool.and_eq_true] at p
    exact Or.inr ⟨p.2, h⟩
  · cases h; exact Or.inl rfl

/-- A divide fault: the next instruction, or the interrupt when it is enabled. -/
theorem divideFault_next {len : Half} {s t : State} (h : divideFault len s = .next t) :
    t = s.advance len ∨ (s.fde = true ∧ raise .fixedPointDivideFault len s = .next t) := by
  unfold divideFault at h
  split at h
  · rename_i p; exact Or.inr ⟨p, h⟩
  · cases h; exact Or.inl rfl

/-! Devices -/

/-- Asking a device logs the request and uses up one answer; the rest of the state stays, but for the draw of a free
answer. -/
theorem ask_eq (s : State) (q : DeviceRequest) :
    (s.ask q).1 = answerTo s ∧
      (s.ask q).2 = { s with requests := s.requests ++ [q], answers := s.answers.tail, draws := (s.ask q).2.draws } := by
  unfold State.ask answerTo
  cases h : s.answers with
  | nil => simp [State.drawn]
  | cons a rest => simp

end Sys2Proof.Machine
end

