-- ==== Sys2Proof/Laws/Flags.lean ====
section
/-! SUPPORT. The Condition Code computations: each flag after each of them, in signed and unsigned numbers. -/

namespace Sys2Proof.Machine

open Sys2Proof.Safety

/-! Bits of a Condition Code -/

theorem ccOf_getMsbD (c v g l : Bool) :
    (ccOf c v g l).getMsbD 0 = c ∧ (ccOf c v g l).getMsbD 1 = v ∧ (ccOf c v g l).getMsbD 2 = g ∧
      (ccOf c v g l).getMsbD 3 = l := by
  cases c <;> cases v <;> cases g <;> cases l <;> decide

theorem isNegative_eq {n : Nat} (v : BitVec n) : isNegative v = decide (v.toInt < 0) := by
  unfold isNegative
  exact BitVec.msb_eq_toInt

theorem isPositive_eq {n : Nat} (v : BitVec n) : isPositive v = decide (0 < v.toInt) := by
  unfold isPositive
  rw [BitVec.msb_eq_toInt]
  have zero : v = 0 ↔ v.toInt = 0 := by
    rw [← BitVec.toInt_inj]; simp
  by_cases h : v = 0
  · simp [h]
  · have := fun e => h (zero.mpr e)
    have ne : (v != 0) = true := by simpa using h
    rw [ne, Bool.true_and]
    rcases lt_trichotomy v.toInt 0 with l | e | g
    · simp [l, l.le]
    · exact absurd e this
    · simp [g, g.le]

/-! Flags after each computation -/

section
variable (s : State)

@[simp] theorem flagC_setResultCC {n : Nat} (c v : Bool) (r : BitVec n) : flagC (s.setResultCC c v r) = c :=
  (ccOf_getMsbD _ _ _ _).1

@[simp] theorem flagV_setResultCC {n : Nat} (c v : Bool) (r : BitVec n) : flagV (s.setResultCC c v r) = v :=
  (ccOf_getMsbD _ _ _ _).2.1

@[simp] theorem flagG_setResultCC {n : Nat} (c v : Bool) (r : BitVec n) :
    flagG (s.setResultCC c v r) = decide (0 < r.toInt) :=
  (ccOf_getMsbD _ _ _ _).2.2.1.trans (isPositive_eq r)

@[simp] theorem flagL_setResultCC {n : Nat} (c v : Bool) (r : BitVec n) :
    flagL (s.setResultCC c v r) = decide (r.toInt < 0) :=
  (ccOf_getMsbD _ _ _ _).2.2.2.trans (isNegative_eq r)

/-- G and L after a result. -/
theorem signFlags_setResultCC {n : Nat} (c v : Bool) (r : BitVec n) : SignFlags (s.setResultCC c v r) r :=
  ⟨flagG_setResultCC s c v r, flagL_setResultCC s c v r⟩

/-- G and L after a load or a logical operation. -/
theorem signFlags_setLoadCC (r : Half) : SignFlags (s.setLoadCC r) r :=
  signFlags_setResultCC s _ _ r

/-- After a shift: V reset, G and L from the result, C the last bit shifted out when there is one. -/
theorem setShiftCC_flags {w : Nat} (n : Nat) (out : Bool) (r : BitVec w) :
    SignFlags (s.setShiftCC n out r) r ∧ flagV (s.setShiftCC n out r) = false ∧
      (1 ≤ n → flagC (s.setShiftCC n out r) = out) := by
  unfold State.setShiftCC
  split
  · exact ⟨signFlags_setResultCC s _ _ r, flagV_setResultCC s _ _ r, fun h => by omega⟩
  · exact ⟨signFlags_setResultCC s _ _ r, flagV_setResultCC s _ _ r, fun _ => flagC_setResultCC s _ _ r⟩

/-- After a logical compare: C the borrow, G and L the sign of the difference. -/
theorem setLogicalCompareCC_flags {n : Nat} (a b : BitVec n) :
    flagC (s.setLogicalCompareCC a b) = decide (a.toNat < b.toNat) ∧
      SignFlags (s.setLogicalCompareCC a b) (a - b) :=
  ⟨flagC_setResultCC s _ _ _, signFlags_setResultCC s _ _ _⟩

/-- After an algebraic compare: the signed order. -/
theorem setCompareCC_flags (a b : Half) :
    flagC (s.setCompareCC a b) = decide (a.toInt < b.toInt) ∧
      flagG (s.setCompareCC a b) = decide (b.toInt < a.toInt) ∧
      flagL (s.setCompareCC a b) = decide (a.toInt < b.toInt) :=
  ⟨(ccOf_getMsbD _ _ _ _).1, (ccOf_getMsbD _ _ _ _).2.2.1, (ccOf_getMsbD _ _ _ _).2.2.2⟩

/-- After a command or a transfer: V as given. -/
theorem flagV_setTransferCC (v : Bool) : flagV (s.setTransferCC v) = v := (ccOf_getMsbD _ _ _ _).2.1

end

/-! Add and subtract -/

/-- An add: the exact signed sum modulo 2^16, the carry, and whether the sum does not fit. -/
theorem addHalf_eq (a b : Half) (cin : Bool) :
    let total := a.toInt + b.toInt + cin.toNat
    addHalf a b cin = { value := BitVec.ofInt 16 total, carry := decide (65536 ≤ a.toNat + b.toNat + cin.toNat),
                        overflow := decide (total < -32768 ∨ 32767 < total) } := by
  have ha := a.isLt
  have hb := b.isLt
  have hc : cin.toNat ≤ 1 := by cases cin <;> simp
  have value : BitVec.ofNat 16 (a.toNat + b.toNat + cin.toNat) =
      BitVec.ofInt 16 (a.toInt + b.toInt + cin.toNat) := by
    apply BitVec.eq_of_toNat_eq
    simp only [BitVec.toNat_ofNat, BitVec.toNat_ofInt, BitVec.toInt_eq_toNat_cond]
    split <;> split <;> omega
  simp only [addHalf, value, Arith.mk.injEq, true_and]
  rw [← value, BitVec.msb_eq_toInt, BitVec.msb_eq_toInt, BitVec.msb_eq_toInt]
  simp only [BitVec.toInt_eq_toNat_cond, BitVec.toNat_ofNat]
  rw [Bool.eq_iff_iff]
  simp only [Bool.and_eq_true, beq_iff_eq, bne_iff_ne, ne_eq, decide_eq_decide, decide_eq_true_eq]
  split <;> split <;> split <;> omega

/-- A subtract: the exact signed difference modulo 2^16, the borrow, and whether the difference does not fit. -/
theorem subHalf_eq (a b : Half) (cin : Bool) :
    let total := a.toInt - b.toInt - cin.toNat
    subHalf a b cin = { value := BitVec.ofInt 16 total, carry := decide (a.toNat < b.toNat + cin.toNat),
                        overflow := decide (total < -32768 ∨ 32767 < total) } := by
  have ha := a.isLt
  have hb := b.isLt
  have hc : cin.toNat ≤ 1 := by cases cin <;> simp
  have value : BitVec.ofInt 16 ((a.toNat : Int) - b.toNat - cin.toNat) =
      BitVec.ofInt 16 (a.toInt - b.toInt - cin.toNat) := by
    apply BitVec.eq_of_toNat_eq
    simp only [BitVec.toNat_ofInt, BitVec.toInt_eq_toNat_cond]
    split <;> split <;> omega
  have carry : decide ((a.toNat : Int) - b.toNat - cin.toNat < 0) = decide (a.toNat < b.toNat + cin.toNat) := by
    rw [decide_eq_decide]; omega
  simp only [subHalf, value, carry, Arith.mk.injEq, true_and]
  rw [← value, BitVec.msb_eq_toInt, BitVec.msb_eq_toInt, BitVec.msb_eq_toInt]
  simp only [BitVec.toInt_eq_toNat_cond, BitVec.toNat_ofInt]
  rw [Bool.eq_iff_iff]
  simp only [Bool.and_eq_true, bne_iff_ne, ne_eq, decide_eq_decide, decide_eq_true_eq]
  split <;> split <;> split <;> omega

end Sys2Proof.Machine
end

