-- ==== Sys2Proof/Tests/Slice0.lean ====
section
/-! SUPPORT. The model's own tests: ill-formed terms that WellFormed refuses, the decoding of every constructor, single
steps, and for each statement with hypotheses a state and operands that meet them. -/

namespace Sys2Proof.Tests

open Sys2Proof.Machine Sys2Proof.Safety

/-! Well-formedness (30_encoding.md R114, 49 R487): a term that each check refuses, and one at its limit. -/

theorem test_refuses_odd_pairs :
    [Instr.mhr 1 2, .dhr 15 2, .mh 3 0 0, .dh 5 0 0, .mhur 7 1, .mhu 9 0 0, .rrl 1 0 0, .rll 1 0 0, .srl 1 0 0,
      .sll 1 0 0, .sra 1 0 0, .sla 15 0 0].all (fun i => !WellFormed i) = true := by decide

theorem test_accepts_even_pairs :
    [Instr.mhr 14 2, .dhr 0 2, .mh 2 0 0, .dh 4 0 0, .mhur 6 1, .mhu 8 0 0, .rrl 0 0 0, .rll 0 0 0, .srl 0 0 0,
      .sll 0 0 0, .sra 0 0 0, .sla 14 0 0].all WellFormed = true := by decide

theorem test_refuses_eppr : WellFormed (.eppr 15 0) = false ∧ WellFormed (.eppr 14 0) = true := by decide

theorem test_refuses_block_r2 : WellFormed (.rbr 0 15) = false ∧ WellFormed (.wbr 0 15) = false ∧
    WellFormed (.rbr 0 14) = true ∧ WellFormed (.wbr 0 14) = true := by decide

theorem test_refuses_index_r1 : WellFormed (.bxh 14 0 0) = false ∧ WellFormed (.bxle 15 0 0) = false ∧
    WellFormed (.bxh 13 0 0) = true ∧ WellFormed (.bxle 13 0 0) = true := by decide

theorem test_refuses_nonzero_r1 : WellFormed (.lpsw 1 0 0) = false ∧ WellFormed (.al 2 0 0) = false ∧
    WellFormed (.sint 15 0 0) = false ∧ WellFormed (.lpsw 0 1 2) = true := by decide

theorem test_refuses_shift_r :
    [Instr.lsa 13 0, .lsb 14 0, .rsa 15 0, .rsb 13 0, .rra 13 0, .rrq 13 0, .lrb 13 0, .rrb 13 0].all
      (fun i => !WellFormed i) = true := by decide

/-! Decoding. Each word is written out from the encoding of spec/opcode_table.json, the annex words bit by bit; the
place of a lost X field is log 42. -/

theorem test_decode_branch :
    ([(16, 0x0163, .balr 6 3),
      (16, 0x02B1, .btcr 11 1),
      (16, 0x03E9, .bfcr 14 9),
      (16, 0x202A, .btbs 2 10),
      (16, 0x2198, .btfs 9 8),
      (16, 0x22C8, .bfbs 12 8),
      (16, 0x23A2, .bffs 10 2),
      (32, 0x415C8001, .bal 5 12 0x8001),
      (32, 0x42FBFFFE, .btc 15 11 0xFFFE),
      (32, 0x4318FFFE, .bfc 1 8 0xFFFE),
      (32, 0xC06C0200, .bxh 6 12 0x0200),
      (32, 0xC11DFFFE, .bxle 1 13 0xFFFE)] : List (Nat × Nat × Instr)).all
      (fun p => decodeTableWord p.1 p.2.1 == some p.2.2) = true := by decide

theorem test_decode_logical :
    ([(16, 0x046A, .nhr 6 10),
      (16, 0x05F9, .clhr 15 9),
      (16, 0x0612, .ohr 1 2),
      (16, 0x0772, .xhr 7 2),
      (16, 0x091E, .chr 1 14),
      (32, 0x443A0200, .nh 3 10 0x0200),
      (32, 0x45811234, .clh 8 1 0x1234),
      (32, 0x46D51234, .oh 13 5 0x1234),
      (32, 0x47C48001, .xh 12 4 0x8001),
      (32, 0x49238001, .ch 2 3 0x8001),
      (16, 0x9291, .stbr 9 1),
      (16, 0x9396, .lbr 9 6),
      (16, 0x94C9, .exbr 12 9),
      (32, 0xC3CAFFFE, .thi 12 10 0xFFFE),
      (32, 0xC48DFFFE, .nhi 8 13 0xFFFE),
      (32, 0xC5621234, .clhi 6 2 0x1234),
      (32, 0xC6248001, .ohi 2 4 0x8001),
      (32, 0xC7461234, .xhi 4 6 0x1234),
      (32, 0xC9E18001, .chi 14 1 0x8001),
      (32, 0xD2C31234, .stb 12 3 0x1234),
      (32, 0xD3311234, .lb 3 1 0x1234),
      (32, 0xD4AF8001, .clb 10 15 0x8001)] : List (Nat × Nat × Instr)).all
      (fun p => decodeTableWord p.1 p.2.1 == some p.2.2) = true := by decide

theorem test_decode_loadStore :
    ([(16, 0x0829, .lhr 2 9),
      (16, 0x2497, .lis 9 7),
      (16, 0x25D6, .lcs 13 6),
      (32, 0x40BA8001, .sth 11 10 0x8001),
      (32, 0x487F8001, .lh 7 15 0x8001),
      (32, 0x74238001, .lh0 2 3 0x8001),
      (32, 0x75898001, .lh1 8 9 0x8001),
      (32, 0x76521234, .lh2 5 2 0x1234),
      (32, 0x772CFFFE, .lh3 2 12 0xFFFE),
      (32, 0xC88A7F3C, .lhi 8 10 0x7F3C),
      (32, 0xD02D8001, .stm 2 13 0x8001),
      (32, 0xD1870200, .lm 8 7 0x0200),
      (32, 0xF8B97F3C, .sth0 11 9 0x7F3C),
      (32, 0xF9980200, .sth1 9 8 0x0200),
      (32, 0xFAF90200, .sth2 15 9 0x0200),
      (32, 0xFB45FFFE, .sth3 4 5 0xFFFE)] : List (Nat × Nat × Instr)).all
      (fun p => decodeTableWord p.1 p.2.1 == some p.2.2) = true := by decide

theorem test_decode_arithmetic :
    ([(16, 0x0A24, .ahr 2 4),
      (16, 0x0B1A, .shr 1 10),
      (16, 0x0C71, .mhr 7 1),
      (16, 0x0D19, .dhr 1 9),
      (16, 0x0E57, .achr 5 7),
      (16, 0x0F92, .schr 9 2),
      (16, 0x26F8, .ais 15 8),
      (16, 0x271B, .sis 1 11),
      (32, 0x4A79FFFE, .ah 7 9 0xFFFE),
      (32, 0x4BF38001, .sh 15 3 0x8001),
      (32, 0x4CE9FFFE, .mh 14 9 0xFFFE),
      (32, 0x4DC7FFFE, .dh 12 7 0xFFFE),
      (32, 0x4EBF8001, .ach 11 15 0x8001),
      (32, 0x4F430200, .sch 4 3 0x0200),
      (32, 0x61B70200, .ahm 11 7 0x0200),
      (16, 0x9CAD, .mhur 10 13),
      (32, 0xCAFBFFFE, .ahi 15 11 0xFFFE),
      (32, 0xCBDB0200, .shi 13 11 0x0200),
      (32, 0xDC7E1234, .mhu 7 14 0x1234)] : List (Nat × Nat × Instr)).all
      (fun p => decodeTableWord p.1 p.2.1 == some p.2.2) = true := by decide

theorem test_decode_listedOnly :
    ([(16, 0x1059, .lcnhr 5 9),
      (16, 0x112A, .lavr 2 10),
      (16, 0x12B4, .lchr 11 4),
      (16, 0x1529, .cldpr 2 9),
      (16, 0x18A1, .ldpr 10 1),
      (16, 0x1948, .cdpr 4 8),
      (16, 0x1A7D, .adpr 7 13),
      (16, 0x1B8A, .sdpr 8 10),
      (16, 0x1C65, .mdpr 6 5),
      (16, 0x1DD3, .ddpr 13 3),
      (32, 0x50341234, .stdp 3 4 0x1234),
      (32, 0x51B40200, .lcnh 11 4 0x0200),
      (32, 0x528E7F3C, .lav 8 14 0x7F3C),
      (32, 0x5335FFFE, .lch 3 5 0xFFFE),
      (32, 0x55138001, .cldp 1 3 0x8001),
      (32, 0x58967F3C, .ldp 9 6 0x7F3C),
      (32, 0x59A61234, .cdp 10 6 0x1234),
      (32, 0x5ACE7F3C, .adp 12 14 0x7F3C),
      (32, 0x5BAB0200, .sdp 10 11 0x0200),
      (32, 0x5C8F7F3C, .mdp 8 15 0x7F3C),
      (32, 0x5D788001, .ddp 7 8 0x8001),
      (32, 0xE3E30200, .resb 14 3 0x0200),
      (32, 0xE4FCFFFE, .sesb 15 12 0xFFFE),
      (32, 0xE6F87F3C, .srql 15 8 0x7F3C),
      (32, 0xE7EF7F3C, .slql 14 15 0x7F3C),
      (32, 0xE87E7F3C, .srqa 7 14 0x7F3C),
      (32, 0xE9391234, .slqa 3 9 0x1234)] : List (Nat × Nat × Instr)).all
      (fun p => decodeTableWord p.1 p.2.1 == some p.2.2) = true := by decide

theorem test_decode_floatingPoint :
    ([(16, 0x28D9, .ler 13 9),
      (16, 0x29DF, .cer 13 15),
      (16, 0x2A6C, .aer 6 12),
      (16, 0x2BA8, .ser 10 8),
      (16, 0x2CD8, .mer 13 8),
      (16, 0x2DE2, .der 14 2),
      (32, 0x60728001, .ste 7 2 0x8001),
      (32, 0x68390200, .le 3 9 0x0200),
      (32, 0x696A0200, .ce 6 10 0x0200),
      (32, 0x6A2E1234, .ae 2 14 0x1234),
      (32, 0x6BA71234, .se 10 7 0x1234),
      (32, 0x6CB5FFFE, .me 11 5 0xFFFE),
      (32, 0x6DA68001, .de 10 6 0x8001)] : List (Nat × Nat × Instr)).all
      (fun p => decodeTableWord p.1 p.2.1 == some p.2.2) = true := by decide

theorem test_decode_system :
    ([(16, 0x2E8C, .epor 8 12),
      (16, 0x2F1C, .eppr 1 12),
      (16, 0x95D9, .epsr 13 9),
      (32, 0xC2851234, .lpsw 8 5 0x1234),
      (32, 0xE1DAFFFE, .svc 13 10 0xFFFE),
      (32, 0xE2598001, .sint 5 9 0x8001)] : List (Nat × Nat × Instr)).all
      (fun p => decodeTableWord p.1 p.2.1 == some p.2.2) = true := by decide

theorem test_decode_inputOutput :
    ([(32, 0x64421234, .atl 4 2 0x1234),
      (32, 0x65830200, .abl 8 3 0x0200),
      (32, 0x666A0200, .rtl 6 10 0x0200),
      (32, 0x67217F3C, .rbl 2 1 0x7F3C),
      (16, 0x96BE, .wbr 11 14),
      (16, 0x97CE, .rbr 12 14),
      (16, 0x9896, .whr 9 6),
      (16, 0x996D, .rhr 6 13),
      (16, 0x9A9A, .wdr 9 10),
      (16, 0x9B6B, .rdr 6 11),
      (16, 0x9DD4, .ssr 13 4),
      (16, 0x9ECD, .ocr 12 13),
      (16, 0x9F49, .air 4 9),
      (32, 0xD5DB1234, .al 13 11 0x1234),
      (32, 0xD6AE7F3C, .wb 10 14 0x7F3C),
      (32, 0xD78BFFFE, .rb 8 11 0xFFFE),
      (32, 0xD8397F3C, .wh 3 9 0x7F3C),
      (32, 0xD9310200, .rh 3 1 0x0200),
      (32, 0xDADC0200, .wd 13 12 0x0200),
      (32, 0xDB9C1234, .rd 9 12 0x1234),
      (32, 0xDDEF1234, .ss 14 15 0x1234),
      (32, 0xDE151234, .oc 1 5 0x1234),
      (32, 0xDF591234, .ai 5 9 0x1234)] : List (Nat × Nat × Instr)).all
      (fun p => decodeTableWord p.1 p.2.1 == some p.2.2) = true := by decide

theorem test_decode_shift :
    ([(16, 0x90C5, .srls 12 5),
      (16, 0x91EC, .slls 14 12),
      (32, 0xCCEB0200, .srhl 14 11 0x0200),
      (32, 0xCDF71234, .slhl 15 7 0x1234),
      (32, 0xCE8F1234, .srha 8 15 0x1234),
      (32, 0xCF7DFFFE, .slha 7 13 0xFFFE),
      (32, 0xEA9A0200, .rrl 9 10 0x0200),
      (32, 0xEBE81234, .rll 14 8 0x1234),
      (32, 0xECA11234, .srl 10 1 0x1234),
      (32, 0xED348001, .sll 3 4 0x8001),
      (32, 0xEEAC0200, .sra 10 12 0x0200),
      (32, 0xEF91FFFE, .sla 9 1 0xFFFE)] : List (Nat × Nat × Instr)).all
      (fun p => decodeTableWord p.1 p.2.1 == some p.2.2) = true := by decide

theorem test_decode_centralFirst :
    ([(18, 0b00000_0001_110001100, .tru 1 396),
      (18, 0b00001_0010_100000100, .trn 2 260),
      (18, 0b00010_1000_100100000, .trz 8 288),
      (18, 0b00011_0001_110000110, .tof 1 390),
      (18, 0b01010_1111_111010100, .tsx 15 468),
      (18, 0b11000_0010_011100011, .cma 2 227),
      (18, 0b11001_0110_100111010, .cml 6 314),
      (18, 0b00101_1001_100110111, .tre 9 311),
      (18, 0b00110_1001_001100111, .trh 9 103),
      (18, 0b00111_1100_010001110, .trl 12 142),
      (18, 0b01100_0111_100_010000, .lck 464),
      (18, 0b01100_0000_000_000000, .ulk),
      (18, 0b10010_1001_100010010, .add 9 274),
      (18, 0b10011_1101_011110101, .sub 13 245),
      (18, 0b10100_1001_111100011, .mly 9 483),
      (18, 0b10101_0100_101100110, .div 4 358),
      (18, 0b00100_1001_111000001, .dpa 9 449),
      (18, 0b11111_0000_001_000000, .sqr),
      (18, 0b10000_1111_111100011, .cla 15 483),
      (18, 0b10110_1111_010000101, .str 15 133),
      (18, 0b10001_1111_100011111, .ldq 15 287),
      (18, 0b10111_1111_111100011, .stq 15 483),
      (18, 0b01000_0100_1_11011000, .inx 4 216),
      (18, 0b01000_1000_0_00100100, .dcx 8 36),
      (18, 0b01011_0111_0_01100101, .trx 7 false 101),
      (18, 0b01001_1000_1_00010011, .sxh 8 true 19),
      (18, 0b11010_1011_001111100, .lga 11 124),
      (18, 0b11011_0111_000100110, .lgm 7 38),
      (18, 0b11100_0100_101010111, .lgc 4 343),
      (18, 0b11101_0101_110010010, .cgc 5 402),
      (18, 0b11110_0011_001_111010, .lsa 3 58),
      (18, 0b11110_1011_011_101010, .lsb 11 42)] : List (Nat × Nat × Instr)).all
      (fun p => decodeTableWord p.1 p.2.1 == some p.2.2) = true := by decide

theorem test_decode_centralSecond :
    ([(18, 0b11110_0101_000_001010, .rsa 5 10),
      (18, 0b11110_1000_100_001001, .rsb 8 9),
      (18, 0b11110_0010_101_110000, .rra 2 48),
      (18, 0b11110_1000_110_111001, .rrq 8 57),
      (18, 0b11110_0100_010_101011, .lrb 4 43),
      (18, 0b11110_0111_111_101110, .rrb 7 46),
      (18, 0b11111_0000_000_000000, .sap),
      (18, 0b11111_0000_100_000000, .csa),
      (18, 0b11111_0000_011_000000, .xca),
      (18, 0b11111_0000_101_000000, .cpa),
      (18, 0b11111_0000_010_000000, .lpr),
      (18, 0b11111_0000_110_000000, .rpr),
      (18, 0b11111_1011_010_000000, .lbi 5),
      (18, 0b11111_1001_110_000000, .rbi 4),
      (18, 0b01100_0101_010_011100, .sei 348),
      (18, 0b01100_0110_011_110000, .rei 432),
      (18, 0b01100_0011_001_001001, .ski 201),
      (18, 0b01100_0000_110_000000, .pia),
      (18, 0b01100_0000_111_000000, .pai),
      (18, 0b01100_0101_101_101110, .skw 366),
      (18, 0b01111_0110_101110010, .exf 3 false 370),
      (18, 0b01101_0000_110_000000, .twa),
      (18, 0b01101_0000_111_000000, .twf),
      (18, 0b01110_0000_011_000000, .otw),
      (18, 0b01110_0000_000_000000, .ipc),
      (18, 0b01101_0000_001_000000, .cta),
      (18, 0b01101_0000_010_000000, .cts),
      (18, 0b01101_0000_011_000000, .ctr),
      (18, 0b01101_0000_100_000000, .pmo),
      (18, 0b01101_0000_101_000000, .pmf),
      (18, 0b01110_0000_001_000000, .opa),
      (18, 0b01110_0000_010_000000, .opb)] : List (Nat × Nat × Instr)).all
      (fun p => decodeTableWord p.1 p.2.1 == some p.2.2) = true := by decide
theorem test_decode_refuses :
    [0x0000, 0x1312, 0x3A12, 0xFF00].all (fun w => decodeTableWord 16 w == none) = true ∧
      [0b01101_0000_000_000000, 0b01110_0000_100_000000, 0b11111_0000_111_000000, 0b01110_1111_111_000000].all
        (fun w => decodeTableWord 18 w == none) = true := by decide

/-- The sub-operation X = 0 of operation code 14 is not among the illegal ones of R524 (log 42). -/
theorem test_decode_ulk_any_n : decodeTableWord 18 0b01100_0001_000_000000 = some .ulk := by decide

theorem test_decode_alias : decode true [0x3A, 0x24] = .ok (.aer 2 4) := by decide

/-! Single steps. A name that ends in V<file>_<row> is that row of spec/95_test_vectors.md; the other expected values
are worked out by hand from the rule of the instruction. -/

/-- A machine after reset with an operational control field, a Condition Code, a location counter, registers and
halfwords of memory. -/
def machine (control : BitVec 12) (cc : BitVec 4) (loc : Half) (regs : List (Reg × Half))
    (halves : List (Bank × Half × Half)) : State :=
  let s := { State.reset with control := control, cc := cc, loc := loc }
  let t := regs.foldl (fun t p => t.setReg p.1 p.2) s
  halves.foldl (fun t p => t.putHalf p.1 p.2.1 p.2.2) t

/-- A step on the word placed where it fetches answers a state that passes `p`. -/
def runs (s : State) (nbits w : Nat) (p : State → Bool) : Bool :=
  match step (s.withFetchWord nbits w) with
  | .next t => p t
  | _ => false

/-- An answer of a device that completes with nothing to say. -/
def reply : DeviceAnswer :=
  { timeout := false, fail := false, device := 0, status := 0, byte := 0, half := 0, bytes := [], accepted := 0, cc := 0 }

/-- Devices that request an interrupt and will give one answer. -/
def answering (s : State) (pending : List Byte) (a : DeviceAnswer) : State :=
  { s with answers := [a], pending := pending }

theorem flag_c {t : State} {c v g l x : Bool} (h : t.cc = ccOf c v g l) (e : c = x) : flagC t = x := by
  rw [← e, flagC, h]; exact (ccOf_getMsbD c v g l).1

theorem flag_g {t : State} {c v g l x : Bool} (h : t.cc = ccOf c v g l) (e : g = x) : flagG t = x := by
  rw [← e, flagG, h]; exact (ccOf_getMsbD c v g l).2.2.1

theorem flag_l {t : State} {c v g l x : Bool} (h : t.cc = ccOf c v g l) (e : l = x) : flagL t = x := by
  rw [← e, flagL, h]; exact (ccOf_getMsbD c v g l).2.2.2

theorem test_lis_V40_1 :
    runs (machine 0 0 0x100 [] []) 16 0x2450 (fun t => t.reg 5 == 0x0000 && t.loc == 0x102) = true := by decide

theorem test_lcs_V40_3 :
    runs (machine 0 0 0x100 [] []) 16 0x2520 (fun t => t.reg 2 == 0x0000 && t.loc == 0x102) = true := by decide

theorem test_lhr_V40_5 :
    runs (machine 0 0 0x100 [(2, 0x8000)] []) 16 0x0812 (fun t => t.reg 1 == 0x8000 &&
      t.loc == 0x102) = true := by decide

theorem test_lhi_V40_6 :
    runs (machine 0 0 0x100 [(4, 0x0002)] []) 32 0xC834FFFF (fun t => t.reg 3 == 0x0001 &&
      t.loc == 0x104) = true := by decide

theorem test_lh_V40_7 :
    runs (machine 0 0 0x100 [(2, 0x0004)] [(0, 0x0204, 0x7FFF)]) 32 0x48120200 (fun t => t.reg 1 == 0x7FFF &&
      t.loc == 0x104) = true := by decide

theorem test_lh_V40_8 :
    step ((machine 0 0 0x100 [] []).withFetchWord 32 0x48100201) = .fault .misaligned := by rfl

theorem test_lh2_V40_10 :
    runs (machine 0 0 0x100 [] [(2, 0x0200, 0x1234), (0, 0x0200, 0x9999)]) 32 0x76100200 (fun t =>
      t.reg 1 == 0x1234 && t.loc == 0x104) = true := by decide

theorem test_sth_V40_12 :
    runs (machine 0 0 0x100 [(7, 0xABCD)] []) 32 0x40700400 (fun t => t.byteAt 0 0x0400 == 0xAB &&
      t.byteAt 0 0x0401 == 0xCD && t.loc == 0x104 && t.reg 7 == 0xABCD) = true := by decide

theorem test_sth3_V40_13 :
    runs (machine 0 0 0x100 [(7, 0xABCD)] []) 32 0xFB700400 (fun t => t.halfAt 3 0x0400 == 0xABCD &&
      t.loc == 0x104) = true := by decide

theorem test_stm_V40_14 :
    runs (machine 0 0 0x100 [(14, 0x1111), (15, 0x2222)] []) 32 0xD0E00300 (fun t => t.halfAt 0 0x0300 == 0x1111 &&
      t.halfAt 0 0x0302 == 0x2222 && t.loc == 0x104 && t.reg 14 == 0x1111 && t.reg 15 == 0x2222) = true := by decide

theorem test_lm_V40_15 :
    runs (machine 0 0b1010 0x100 [] [(0, 0x0300, 0x0001), (0, 0x0302, 0x0002), (0, 0x0304, 0x0003)]) 32 0xD1D00300
      (fun t => t.reg 13 == 0x0001 && t.reg 14 == 0x0002 && t.reg 15 == 0x0003 && (t.cc &&& 0b1111) == 0b1010 &&
      t.loc == 0x104) = true := by decide

theorem test_lm_V40_16 :
    runs (machine 0 0 0x100 [(15, 0x0004)] [(0, 0x0304, 0xBEEF)]) 32 0xD1FF0300 (fun t => t.reg 15 == 0xBEEF &&
      t.loc == 0x104) = true := by decide

theorem test_ahr_V41_1 :
    runs (machine 0 0 0x100 [(1, 0x7FFF), (2, 0x0001)] []) 16 0x0A12 (fun t => t.reg 1 == 0x8000 &&
      (t.cc &&& 0b1111) == 0b0101 && t.loc == 0x102) = true := by decide

theorem test_ahr_V41_2 :
    runs (machine 0 0 0x100 [(1, 0x8000), (2, 0x8000)] []) 16 0x0A12 (fun t => t.reg 1 == 0x0000 &&
      (t.cc &&& 0b1111) == 0b1100 && t.loc == 0x102) = true := by decide

theorem test_ais_V41_5 :
    runs (machine 0 0 0x100 [(1, 0x8000)] []) 16 0x2610 (fun t => t.reg 1 == 0x8000 && (t.cc &&& 0b1111) == 0b0001 &&
      t.loc == 0x102) = true := by decide

theorem test_ais_V41_6 :
    runs (machine 0 0 0x100 [(1, 0xFFFF)] []) 16 0x2611 (fun t => t.reg 1 == 0x0000 && (t.cc &&& 0b1111) == 0b1000 &&
      t.loc == 0x102) = true := by decide

theorem test_ahi_V41_7 :
    runs (machine 0 0 0x100 [(1, 0x0001)] []) 32 0xCA10FFFF (fun t => t.reg 1 == 0x0000 &&
      (t.cc &&& 0b1111) == 0b1000 && t.loc == 0x104) = true := by decide

theorem test_ahm_V41_8 :
    runs (machine 0 0 0x100 [(5, 0x0001)] [(0, 0x0300, 0xFFFF)]) 32 0x61500300 (fun t => t.reg 5 == 0x0001 &&
      t.halfAt 0 0x0300 == 0x0000 && (t.cc &&& 0b1111) == 0b1000 && t.loc == 0x104) = true := by decide

theorem test_achr_V41_9 :
    runs (machine 0 0b1000 0x100 [(1, 0xFFFF), (2, 0x0000)] []) 16 0x0E12 (fun t => t.reg 1 == 0x0000 &&
      (t.cc &&& 0b1111) == 0b1000 && t.loc == 0x102) = true := by decide

theorem test_achr_V41_10 :
    runs (machine 0 0b0111 0x100 [(1, 0x0000), (2, 0x0000)] []) 16 0x0E12 (fun t => t.reg 1 == 0x0000 &&
      (t.cc &&& 0b1111) == 0b0000 && t.loc == 0x102) = true := by decide

theorem test_ach_V41_11 :
    runs (machine 0 0b1000 0x100 [(1, 0x7FFF)] [(0, 0x0200, 0x0000)]) 32 0x4E100200 (fun t => t.reg 1 == 0x8000 &&
      (t.cc &&& 0b1111) == 0b0101 && t.loc == 0x104) = true := by decide

theorem test_shr_V41_12 :
    runs (machine 0 0 0x100 [(1, 0x0000), (2, 0x0001)] []) 16 0x0B12 (fun t => t.reg 1 == 0xFFFF &&
      (t.cc &&& 0b1111) == 0b1001 && t.loc == 0x102) = true := by decide

theorem test_shr_V41_13 :
    runs (machine 0 0 0x100 [(1, 0x8000), (2, 0x0001)] []) 16 0x0B12 (fun t => t.reg 1 == 0x7FFF &&
      (t.cc &&& 0b1111) == 0b0110 && t.loc == 0x102) = true := by decide

theorem test_sis_V41_16 :
    runs (machine 0 0 0x100 [(1, 0x0001)] []) 16 0x2712 (fun t => t.reg 1 == 0xFFFF && (t.cc &&& 0b1111) == 0b1001 &&
      t.loc == 0x102) = true := by decide

theorem test_shi_V41_17 :
    runs (machine 0 0 0x100 [(1, 0x0010), (2, 0x0001)] []) 32 0xCB120001 (fun t => t.reg 1 == 0x000E &&
      (t.cc &&& 0b1111) == 0b0010 && t.loc == 0x104) = true := by decide

theorem test_schr_V41_18 :
    runs (machine 0 0b1000 0x100 [(1, 0x0000), (2, 0x0000)] []) 16 0x0F12 (fun t => t.reg 1 == 0xFFFF &&
      (t.cc &&& 0b1111) == 0b1001 && t.loc == 0x102) = true := by decide

theorem test_schr_V41_19 :
    runs (machine 0 0b1000 0x100 [(1, 0x0000), (2, 0xFFFF)] []) 16 0x0F12 (fun t => t.reg 1 == 0x0000 &&
      (t.cc &&& 0b1111) == 0b1000 && t.loc == 0x102) = true := by decide

theorem test_sch_V41_20 :
    runs (machine 0 0b1000 0x100 [(1, 0x8000)] [(0, 0x0200, 0x0000)]) 32 0x4F100200 (fun t => t.reg 1 == 0x7FFF &&
      (t.cc &&& 0b1111) == 0b0110 && t.loc == 0x104) = true := by decide

theorem test_mhr_V41_21 :
    runs (machine 0 0b1111 0x100 [(2, 0x1234), (3, 0xFFFE), (4, 0x0003)] []) 16 0x0C24 (fun t => t.reg 2 == 0xFFFF &&
      t.reg 3 == 0xFFFA && (t.cc &&& 0b1111) == 0b1111 && t.loc == 0x102 && t.reg 4 == 0x0003) = true := by decide

theorem test_mhr_V41_25 :
    step ((machine 0 0 0x100 [(3, 0x0001), (4, 0x0001)] []).withFetchWord 16 0x0C34) = .refused .oddPairRegister := by rfl

theorem test_mh_V41_26 :
    runs (machine 0 0 0x100 [(3, 0x4000)] [(0, 0x0200, 0x0004)]) 32 0x4C200200 (fun t => t.reg 2 == 0x0001 &&
      t.reg 3 == 0x0000 && t.loc == 0x104) = true := by decide

theorem test_mhur_V41_27 :
    runs (machine 0 0 0x100 [(3, 0xFFFF), (4, 0xFFFF)] []) 16 0x9C24 (fun t => t.reg 2 == 0xFFFE &&
      t.reg 3 == 0x0001 && t.loc == 0x102) = true := by decide

theorem test_mhur_V41_28 :
    runs (machine 0 0 0x100 [(3, 0x8000), (4, 0x8000)] []) 16 0x9C24 (fun t => t.reg 2 == 0x4000 &&
      t.reg 3 == 0x0000 && t.loc == 0x102) = true := by decide

theorem test_dhr_V41_33 :
    runs (machine 0 0 0x100 [(2, 0xFFFF), (3, 0xFFF9), (4, 0xFFFE)] []) 16 0x0D24 (fun t => t.reg 3 == 0x0003 &&
      t.reg 2 == 0xFFFF && t.loc == 0x102) = true := by decide

theorem test_dhr_V41_35 :
    runs (machine 0x100 0b0101 0x100 [(2, 0x0000), (3, 0x0007), (4, 0x0000)]
      [(0, 0x004C, 0x0000), (0, 0x004E, 0x0700)]) 16 0x0D24 (fun t => t.halfAt 0 0x0048 == 0x1005 &&
      t.halfAt 0 0x004A == 0x0102 && t.ps == 0x0000 && t.loc == 0x0700 && t.reg 2 == 0x0000 && t.reg 3 == 0x0007 &&
      t.reg 4 == 0x0000) = true := by decide

theorem test_dh_V41_43 :
    runs (machine 0 0 0x100 [(2, 0x0000), (3, 0x0064)] [(0, 0x0200, 0x0007)]) 32 0x4D200200 (fun t =>
      t.reg 3 == 0x000E && t.reg 2 == 0x0002 && t.loc == 0x104) = true := by decide

theorem test_nhr_V42_1 :
    runs (machine 0 0 0x100 [(1, 0xF0F0), (2, 0x0FF0)] []) 16 0x0412 (fun t => t.reg 1 == 0x00F0 &&
      t.loc == 0x102) = true := by decide

theorem test_ohr_V42_3 :
    runs (machine 0 0 0x100 [(1, 0x00F0), (2, 0x0F00)] []) 16 0x0612 (fun t => t.reg 1 == 0x0FF0 &&
      t.loc == 0x102) = true := by decide

theorem test_xhr_V42_4 :
    runs (machine 0 0 0x100 [(1, 0x1234)] []) 16 0x0711 (fun t => t.reg 1 == 0x0000 &&
      t.loc == 0x102) = true := by decide

theorem test_xhi_V42_5 :
    runs (machine 0 0 0x100 [(1, 0x00FF)] []) 32 0xC710FFFF (fun t => t.reg 1 == 0xFF00 &&
      t.loc == 0x104) = true := by decide

theorem test_nhi_V42_6 :
    runs (machine 0 0 0x100 [(1, 0xABCD), (2, 0x0100)] []) 32 0xC41200FF (fun t => t.reg 1 == 0x01CD &&
      t.loc == 0x104) = true := by decide

theorem test_thi_V42_7 :
    runs (machine 0 0 0x100 [(3, 0xFFFE)] []) 32 0xC3300001 (fun t => t.loc == 0x104 &&
      t.reg 3 == 0xFFFE) = true := by decide

theorem test_lbr_V42_20 :
    runs (machine 0 0b1111 0x100 [(1, 0xFFFF), (2, 0xABCD)] []) 16 0x9312 (fun t => t.reg 1 == 0x00CD &&
      (t.cc &&& 0b1111) == 0b1111 && t.loc == 0x102 && t.reg 2 == 0xABCD) = true := by decide

theorem test_lbr_V42_21 :
    runs (machine 0 0 0x100 [(1, 0xABCD)] []) 16 0x9311 (fun t => t.reg 1 == 0x00CD &&
      t.loc == 0x102) = true := by decide

theorem test_lb_V42_22 :
    runs (machine 0 0 0x100 [(1, 0xFFFF)] [(0, 0x0200, 0x12EF)]) 32 0xD3100201 (fun t => t.reg 1 == 0x00EF &&
      t.loc == 0x104) = true := by decide

theorem test_stbr_V42_23 :
    runs (machine 0 0 0x100 [(1, 0x1234), (2, 0xABCD)] []) 16 0x9212 (fun t => t.reg 2 == 0xAB34 && t.loc == 0x102 &&
      t.reg 1 == 0x1234) = true := by decide

theorem test_stb_V42_24 :
    runs (machine 0 0 0x100 [(1, 0x12EF)] [(0, 0x0200, 0xAAAA)]) 32 0xD2100201 (fun t =>
      t.halfAt 0 0x0200 == 0xAAEF && t.loc == 0x104) = true := by decide

theorem test_stb_V42_25 :
    runs (machine 0 0 0x100 [(1, 0x12EF)] [(0, 0x0200, 0xAAAA)]) 32 0xD2100200 (fun t =>
      t.halfAt 0 0x0200 == 0xEFAA && t.loc == 0x104) = true := by decide

theorem test_exbr_V42_26 :
    runs (machine 0 0 0x100 [(2, 0xABCD)] []) 16 0x9412 (fun t => t.reg 1 == 0xCDAB && t.loc == 0x102 &&
      t.reg 2 == 0xABCD) = true := by decide

theorem test_exbr_V42_27 :
    runs (machine 0 0 0x100 [(1, 0x00FF)] []) 16 0x9411 (fun t => t.reg 1 == 0xFF00 &&
      t.loc == 0x102) = true := by decide

theorem test_slls_V43_1 :
    runs (machine 0 0b0100 0x100 [(1, 0x8001)] []) 16 0x9111 (fun t => t.reg 1 == 0x0002 &&
      (t.cc &&& 0b1111) == 0b1010 && t.loc == 0x102) = true := by decide

theorem test_slls_V43_3 :
    runs (machine 0 0b1100 0x100 [(1, 0x8001)] []) 16 0x9110 (fun t => t.reg 1 == 0x8001 &&
      t.loc == 0x102) = true := by decide

theorem test_srls_V43_4 :
    runs (machine 0 0 0x100 [(1, 0x8001)] []) 16 0x9011 (fun t => t.reg 1 == 0x4000 && (t.cc &&& 0b1111) == 0b1010 &&
      t.loc == 0x102) = true := by decide

theorem test_srls_V43_5 :
    runs (machine 0 0 0x100 [(1, 0x8000)] []) 16 0x901F (fun t => t.reg 1 == 0x0001 && (t.cc &&& 0b1111) == 0b0010 &&
      t.loc == 0x102) = true := by decide

theorem test_slhl_V43_7 :
    runs (machine 0 0 0x100 [(1, 0x1234)] []) 32 0xCD100014 (fun t => t.reg 1 == 0x2340 &&
      (t.cc &&& 0b1111) == 0b1010 && t.loc == 0x104) = true := by decide

theorem test_slhl_V43_8 :
    runs (machine 0 0 0x100 [(1, 0x4001), (2, 0xFFFF)] []) 32 0xCD120003 (fun t => t.reg 1 == 0x0004 &&
      (t.cc &&& 0b1111) == 0b1010 && t.loc == 0x104) = true := by decide

theorem test_srhl_V43_9 :
    runs (machine 0 0 0x100 [(1, 0xFF80)] []) 32 0xCC100008 (fun t => t.reg 1 == 0x00FF &&
      (t.cc &&& 0b1111) == 0b1010 && t.loc == 0x104) = true := by decide

theorem test_slha_V43_10 :
    runs (machine 0 0 0x100 [(1, 0xC000)] []) 32 0xCF100001 (fun t => t.reg 1 == 0x8000 &&
      (t.cc &&& 0b1111) == 0b1001 && t.loc == 0x104) = true := by decide

theorem test_slha_V43_11 :
    runs (machine 0 0 0x100 [(1, 0x7FFF)] []) 32 0xCF10000F (fun t => t.reg 1 == 0x0000 &&
      (t.cc &&& 0b1111) == 0b1000 && t.loc == 0x104) = true := by decide

theorem test_srha_V43_14 :
    runs (machine 0 0 0x100 [(1, 0x8006)] []) 32 0xCE100002 (fun t => t.reg 1 == 0xE001 &&
      (t.cc &&& 0b1111) == 0b1001 && t.loc == 0x104) = true := by decide

theorem test_srha_V43_15 :
    runs (machine 0 0 0x100 [(1, 0x8000)] []) 32 0xCE10000F (fun t => t.reg 1 == 0xFFFF &&
      (t.cc &&& 0b1111) == 0b0001 && t.loc == 0x104) = true := by decide

theorem test_sll_V43_18 :
    runs (machine 0 0 0x100 [(2, 0x0001), (3, 0x8000)] []) 32 0xED200010 (fun t => t.reg 2 == 0x8000 &&
      t.reg 3 == 0x0000 && (t.cc &&& 0b1111) == 0b1001 && t.loc == 0x104) = true := by decide

theorem test_sll_V43_20 :
    runs (machine 0 0b1100 0x100 [(2, 0x8000), (3, 0x0001)] []) 32 0xED200020 (fun t => t.loc == 0x104 &&
      t.reg 2 == 0x8000 && t.reg 3 == 0x0001) = true := by decide

theorem test_srl_V43_22 :
    runs (machine 0 0 0x100 [(2, 0x8000), (3, 0x0008)] []) 32 0xEC200004 (fun t => t.reg 2 == 0x0800 &&
      t.reg 3 == 0x0000 && (t.cc &&& 0b1111) == 0b1010 && t.loc == 0x104) = true := by decide

theorem test_srl_V43_23 :
    runs (machine 0 0 0x100 [(2, 0xC000), (3, 0x0000)] []) 32 0xEC20001F (fun t => t.reg 2 == 0x0000 &&
      t.reg 3 == 0x0001 && (t.cc &&& 0b1111) == 0b1010 && t.loc == 0x104) = true := by decide

theorem test_sla_V43_25 :
    runs (machine 0 0 0x100 [(2, 0x4000), (3, 0x0001)] []) 32 0xEF200001 (fun t => t.reg 2 == 0x0000 &&
      t.reg 3 == 0x0002 && (t.cc &&& 0b1111) == 0b1010 && t.loc == 0x104) = true := by decide

theorem test_sla_V43_26 :
    runs (machine 0 0 0x100 [(2, 0xF000), (3, 0x0001)] []) 32 0xEF200004 (fun t => t.reg 2 == 0x8000 &&
      t.reg 3 == 0x0010 && (t.cc &&& 0b1111) == 0b0001 && t.loc == 0x104) = true := by decide

theorem test_sra_V43_28 :
    runs (machine 0 0 0x100 [(2, 0x8000), (3, 0x0000)] []) 32 0xEE20001F (fun t => t.reg 2 == 0xFFFF &&
      t.reg 3 == 0xFFFF && (t.cc &&& 0b1111) == 0b0001 && t.loc == 0x104) = true := by decide

theorem test_sra_V43_29 :
    runs (machine 0 0 0x100 [(2, 0x0000), (3, 0x0003)] []) 32 0xEE200001 (fun t => t.reg 2 == 0x0000 &&
      t.reg 3 == 0x0001 && (t.cc &&& 0b1111) == 0b1010 && t.loc == 0x104) = true := by decide

theorem test_rll_V43_31 :
    runs (machine 0 0 0x100 [(2, 0x1234), (3, 0x5678)] []) 32 0xEB200010 (fun t => t.reg 2 == 0x5678 &&
      t.reg 3 == 0x1234 && (t.cc &&& 0b1111) == 0b0010 && t.loc == 0x104) = true := by decide

theorem test_rll_V43_32 :
    runs (machine 0 0b1100 0x100 [(2, 0x8000), (3, 0x0000)] []) 32 0xEB200001 (fun t => t.reg 2 == 0x0000 &&
      t.reg 3 == 0x0001 && (t.cc &&& 0b1111) == 0b0010 && t.loc == 0x104) = true := by decide

theorem test_rrl_V43_34 :
    runs (machine 0 0 0x100 [(2, 0x1234), (3, 0x5678)] []) 32 0xEA200004 (fun t => t.reg 2 == 0x8123 &&
      t.reg 3 == 0x4567 && (t.cc &&& 0b1111) == 0b0001 && t.loc == 0x104) = true := by decide

theorem test_rrl_V43_35 :
    runs (machine 0 0 0x100 [(2, 0x0000), (3, 0x0001)] []) 32 0xEA200001 (fun t => t.reg 2 == 0x8000 &&
      t.reg 3 == 0x0000 && (t.cc &&& 0b1111) == 0b0001 && t.loc == 0x104) = true := by decide

theorem test_btbs_V44_1 :
    runs (machine 0 0b1010 0x100 [] []) 16 0x2043 (fun t => t.loc == 0x0102 && t.cc == 0b1010) = true := by decide

theorem test_btfs_V44_2 :
    runs (machine 0 0b0010 0x100 [] []) 16 0x212F (fun t => t.loc == 0x011E && t.cc == 0b0010) = true := by decide

theorem test_btfs_V44_3 :
    runs (machine 0 0b1111 0x100 [] []) 16 0x2105 (fun t => t.loc == 0x0102 && t.cc == 0b1111) = true := by decide

theorem test_bffs_V44_4 :
    runs (machine 0 0b1111 0x100 [] []) 16 0x2300 (fun t => t.loc == 0x0100 && t.cc == 0b1111) = true := by decide

theorem test_btcr_V44_7 :
    runs (machine 0 0b0001 0x100 [(5, 0x0400)] []) 16 0x0235 (fun t => t.loc == 0x0400 &&
      t.cc == 0b0001) = true := by decide

theorem test_btcr_V44_8 :
    runs (machine 0 0b1000 0x100 [(5, 0x0400)] []) 16 0x0235 (fun t => t.loc == 0x0102 &&
      t.cc == 0b1000) = true := by decide

theorem test_bfcr_V44_9 :
    runs (machine 0 0b1111 0x100 [(15, 0x0222)] []) 16 0x030F (fun t => t.loc == 0x0222 &&
      t.cc == 0b1111) = true := by decide

theorem test_btc_V44_11 :
    runs (machine 0 0b1000 0x100 [(2, 0x0010)] []) 32 0x42820300 (fun t => t.loc == 0x0310 &&
      t.cc == 0b1000) = true := by decide

theorem test_btc_V44_12 :
    runs (machine 0 0b0111 0x100 [] []) 32 0x42800300 (fun t => t.loc == 0x0104 &&
      t.cc == 0b0111) = true := by decide

theorem test_bfc_V44_13 :
    runs (machine 0 0b0001 0x100 [] []) 32 0x43200300 (fun t => t.loc == 0x0300 &&
      t.cc == 0b0001) = true := by decide

theorem test_balr_V44_15 :
    runs (machine 0 0 0x100 [(3, 0x0500)] []) 16 0x01F3 (fun t => t.reg 15 == 0x0102 &&
      t.loc == 0x0500) = true := by decide

theorem test_balr_V44_16 :
    runs (machine 0 0 0x100 [(1, 0x0500)] []) 16 0x0111 (fun t => t.reg 1 == 0x0102 &&
      t.loc == 0x0500) = true := by decide

theorem test_bal_V44_18 :
    runs (machine 0 0 0x100 [] []) 32 0x41F00600 (fun t => t.reg 15 == 0x0104 && t.loc == 0x0600) = true := by decide

theorem test_bal_V44_19 :
    runs (machine 0 0 0x100 [(3, 0x0600)] []) 32 0x41330004 (fun t => t.reg 3 == 0x0104 &&
      t.loc == 0x0604) = true := by decide

theorem test_bxh_V44_20 :
    runs (machine 0 0 0x100 [(1, 0x0008), (2, 0x0002), (3, 0x0009)] []) 32 0xC0100200 (fun t => t.reg 1 == 0x000A &&
      t.loc == 0x0200) = true := by decide

theorem test_bxh_V44_21 :
    runs (machine 0 0 0x100 [(1, 0x0008), (2, 0x0002), (3, 0x000A)] []) 32 0xC0100200 (fun t => t.reg 1 == 0x000A &&
      t.loc == 0x0104) = true := by decide

theorem test_bxle_V44_22 :
    runs (machine 0 0 0x100 [(1, 0x0008), (2, 0x0002), (3, 0x000A)] []) 32 0xC1100200 (fun t => t.reg 1 == 0x000A &&
      t.loc == 0x0200) = true := by decide

theorem test_bxle_V44_29 :
    step ((machine 0 0 0x100 [] []).withFetchWord 32 0xC1E00200) = .refused .registerBeyondMax := by rfl

theorem test_ler_V45_1 :
    runs (machine 0 0 0x100 [] [(0, 0x0008, 0x4100), (0, 0x000A, 0x1000)]) 16 0x2824 (fun t =>
      t.fullAt 0 0x0004 == 0x3F100000 && t.loc == 0x102) = true := by decide

theorem test_ler_V45_6 :
    step ((machine 0 0 0x100 [] []).withFetchWord 16 0x2834) = .refused .fprInvalid := by rfl

theorem test_le_V45_7 :
    runs (machine 0 0 0x100 [] [(0, 0x0200, 0x0500), (0, 0x0202, 0x0001)]) 32 0x68200200 (fun t =>
      t.fullAt 0 0x0004 == 0x00100000 && t.loc == 0x104) = true := by decide

theorem test_ste_V45_9 :
    runs (machine 0 0b1010 0x100 [(3, 0x0004)] [(0, 0x0004, 0x4110), (0, 0x0006, 0x0000)]) 32 0x60230204 (fun t =>
      t.halfAt 0 0x0208 == 0x4110 && t.halfAt 0 0x020A == 0x0000 && (t.cc &&& 0b1111) == 0b1010 && t.loc == 0x104 &&
      t.reg 3 == 0x0004) = true := by decide

theorem test_ste_V45_10 :
    runs (machine 0 0 0x100 [] [(0, 0x0004, 0x0000), (0, 0x0006, 0x0001)]) 32 0x60200300 (fun t =>
      t.fullAt 0 0x0300 == 0x00000001 && t.loc == 0x104) = true := by decide

theorem test_aer_V45_11 :
    runs (machine 0 0 0x100 [] [(0, 0x0000, 0x41F0), (0, 0x0002, 0x0000), (0, 0x0004, 0x4110), (0, 0x0006, 0x0000)])
      16 0x2A02 (fun t => t.fullAt 0 0x0000 == 0x42100000 && t.loc == 0x102) = true := by decide

theorem test_ser_V45_23 :
    runs (machine 0 0 0x100 [] [(0, 0x0000, 0x4110), (0, 0x0002, 0x0000), (0, 0x0004, 0x4110), (0, 0x0006, 0x0000)])
      16 0x2B02 (fun t => t.fullAt 0 0x0000 == 0x00000000 && t.loc == 0x102) = true := by decide

theorem test_ae_V45_27 :
    runs (machine 0 0 0x100 [] [(0, 0x0300, 0x4120), (0, 0x0302, 0x0000), (0, 0x0000, 0x4110), (0, 0x0002, 0x0000)])
      32 0x6A000300 (fun t => t.fullAt 0 0x0000 == 0x41300000 && t.loc == 0x104) = true := by decide

theorem test_ae_V45_29 :
    step ((machine 0 0 0x100 [] []).withFetchWord 32 0x6A000301) = .fault .misaligned := by rfl

theorem test_se_V45_28 :
    runs (machine 0 0 0x100 [] [(0, 0x0300, 0x4110), (0, 0x0302, 0x0000), (0, 0x0000, 0x4130), (0, 0x0002, 0x0000)])
      32 0x6B000300 (fun t => t.fullAt 0 0x0000 == 0x41200000 && t.loc == 0x104) = true := by decide

theorem test_mer_V45_36 :
    runs (machine 0 0 0x100 [] [(0, 0x0000, 0x4120), (0, 0x0002, 0x0000), (0, 0x0004, 0x4080), (0, 0x0006, 0x0000)])
      16 0x2C02 (fun t => t.fullAt 0 0x0000 == 0x41100000 && t.loc == 0x102) = true := by decide

theorem test_me_V45_46 :
    runs (machine 0 0 0x100 [] [(0, 0x0300, 0x4130), (0, 0x0302, 0x0000), (0, 0x0000, 0x4120), (0, 0x0002, 0x0000)])
      32 0x6C000300 (fun t => t.fullAt 0 0x0000 == 0x41600000 && t.loc == 0x104) = true := by decide

theorem test_der_V45_52 :
    runs (machine 0 0b0011 0x100 []
      [(0, 0x0000, 0x4110), (0, 0x0002, 0x0000), (0, 0x0004, 0x0000), (0, 0x0006, 0x0000)]) 16 0x2D02 (fun t =>
      (t.cc &&& 0b1111) == 0b1100 && t.loc == 0x0102) = true := by decide

theorem test_der_V45_47 :
    runs (machine 0 0 0x100 [] [(0, 0x0000, 0x4110), (0, 0x0002, 0x0000), (0, 0x0004, 0x4120), (0, 0x0006, 0x0000)])
      16 0x2D02 (fun t => t.fullAt 0 0x0000 == 0x40800000 && t.loc == 0x102) = true := by decide

theorem test_de_V45_60 :
    runs (machine 0 0 0x100 [] [(0, 0x0300, 0x0000), (0, 0x0302, 0x0000), (0, 0x0000, 0x4110), (0, 0x0002, 0x0000)])
      32 0x6D000300 (fun t => (t.cc &&& 0b1111) == 0b1100 && t.loc == 0x104) = true := by decide

theorem test_de_V45_61 :
    runs (machine 0 0 0x100 [] [(0, 0x0300, 0x41A0), (0, 0x0302, 0x0000), (0, 0x0000, 0x4264), (0, 0x0002, 0x0000)])
      32 0x6D000300 (fun t => t.fullAt 0 0x0000 == 0x41A00000 && t.loc == 0x104) = true := by decide

theorem test_lpsw_V46_1 :
    runs (machine 0 0 0x100 [] [(0, 0x0096, 0x010A), (0, 0x0098, 0x0400)]) 32 0xC2000096 (fun t => t.ps == 0x010A &&
      (t.cc &&& 0b1111) == 0b1010 && t.loc == 0x0400) = true := by decide

theorem test_lpsw_V46_3 :
    step ((machine 0 0 0x100 [] []).withFetchWord 32 0xC2100096) = .refused .r1MustBeZero := by rfl

theorem test_epor_V46_5 :
    runs (machine 0x011 0b1010 0x100 [(5, 0x0030)] []) 16 0x2E50 (fun t => t.reg 5 == 0x011A && t.control == 0x013 &&
      (t.cc &&& 0b1111) == 0b1010 && t.loc == 0x102) = true := by decide

theorem test_eppr_V46_6 :
    runs (machine 0 0b0010 0x100 [(6, 0x0050), (7, 0x0800)] []) 16 0x2F60 (fun t => t.reg 6 == 0x0002 &&
      t.reg 7 == 0x0102 && t.control == 0x005 && t.loc == 0x0800) = true := by decide

theorem test_eppr_V46_7 :
    step ((machine 0 0 0x100 [] []).withFetchWord 16 0x2FF0) = .refused .pairBeyondR15 := by rfl

theorem test_epsr_V46_8 :
    runs (machine 0 0b1000 0x100 [(2, 0x0105)] []) 16 0x9512 (fun t => t.reg 1 == 0x0008 && t.ps == 0x0105 &&
      (t.cc &&& 0b1111) == 0b0101 && t.loc == 0x0102) = true := by decide

theorem test_epsr_V46_10 :
    runs (machine 0x010 0 0x100 [] [(0, 0x0034, 0x0000), (0, 0x0036, 0x0800)]) 16 0x9512 (fun t =>
      t.halfAt 0 0x0030 == 0x0100 && t.halfAt 0 0x0032 == 0x0100 && t.loc == 0x0800) = true := by decide

theorem test_sint_V46_11 :
    step ((machine 0 0 0x100 [] []).withFetchWord 32 0xE2000012) = .refused .sintNotSpecified := by rfl

/-- On a platform with a Service Pointer Table of halfword entries: device X'12' has its entry at X'00F4' (R548). -/
theorem test_sint_immediate :
    let s := machine 0 0 0x100 [] [(0, 0x00F4, 0x0300), (0, 0x0306, 0x0500)]
    runs { s with platform := { s.platform with service := .pointerTable ⟨2, 1, 4⟩ } } 32 0xE2000012
      (fun t => t.loc == 0x0500 && t.fullAt 0 0x0300 == 0x00000104) = true := by decide

/-- A due device interrupt on a platform that exchanges at X'0040' and X'0044' (R545). -/
theorem test_device_interrupt :
    let s := machine 0 0 0x100 [] [(0, 0x0046, 0x0500)]
    runs { s with
        pending := [0x12]
        platform := { s.platform with service := .exchange, interruptStatuses := [0] } } 16 0x0812
      (fun t => t.loc == 0x0500 && t.fullAt 0 0x0040 == 0x00000100 && t.pending == [0x12]) = true := by decide

/-- The refusals of R191 and R302 (vectors V41-37, V41-38 and V45-21). -/
theorem test_undefined_refused :
    let s := fun high => machine 0 0 0x100 [(2, high), (3, 0x8000), (4, 0x0001)]
      [(0, 0, 0x4110), (0, 4, 0x4101), (0, 6, 0x2345)]
    exec (.dhr 2 4) (s 0) = .refused .divideQuotientBoundary ∧
      exec (.dhr 2 4) (s 0xFFFF) = .refused .divideQuotientBoundary ∧
      exec (.aer 0 2) (s 0) = .refused .fpUnnormalized ∧ exec (.cer 0 2) (s 0) = .refused .fpUnnormalized :=
  ⟨rfl, rfl, rfl, rfl⟩

theorem test_svc_V46_13 :
    runs (machine 0x013 0b0010 0x100 [(3, 0x0010)] [(0, 0x009A, 0x0000), (0, 0x00A0, 0x0900)]) 32 0xE1230400
      (fun t => t.halfAt 0 0x0094 == 0x0410 && t.halfAt 0 0x0096 == 0x0132 && t.halfAt 0 0x0098 == 0x0104 &&
      t.ps == 0x0000 && t.loc == 0x0900) = true := by decide

theorem test_svc_V46_14 :
    runs (machine 0x010 0 0x100 [] [(0, 0x009A, 0x0100), (0, 0x00BA, 0x0A00)]) 32 0xE1F00000 (fun t =>
      t.halfAt 0 0x0094 == 0x0000 && t.halfAt 0 0x0096 == 0x0100 && t.halfAt 0 0x0098 == 0x0104 && t.ps == 0x0100 &&
      t.loc == 0x0A00) = true := by decide

theorem test_unassigned_V46_15 :
    runs (machine 0 0b0110 0x100 [] [(0, 0x0036, 0x0800)]) 16 0x0000 (fun t => t.halfAt 0 0x0030 == 0x0006 &&
      t.halfAt 0 0x0032 == 0x0100 && t.ps == 0x0000 && t.loc == 0x0800) = true := by decide

theorem test_unassigned_V46_16 :
    runs (machine 0 0 0x100 [] [(0, 0x0036, 0x0800)]) 16 0x3A02 (fun t => t.halfAt 0 0x0030 == 0x0000 &&
      t.halfAt 0 0x0032 == 0x0100 && t.loc == 0x0800) = true := by decide

theorem test_lchr_V46_18 :
    step ((machine 0 0 0x100 [] []).withFetchWord 16 0x1212) = .refused .listedOnly := by rfl

theorem test_atl_V47_1 :
    runs (machine 0 0 0x100 [(5, 0xAAAA)] [(0, 0x0800, 0x0400), (0, 0x0802, 0x0000)]) 32 0x64500800 (fun t =>
      (t.cc &&& 0b1111) == 0b0000 &&
      t.byteAt 0 0x800 == 4 && t.byteAt 0 0x801 == 1 && t.byteAt 0 0x802 == 3 && t.byteAt 0 0x803 == 0 &&
      t.halfAt 0 0x080A == 0xAAAA && t.loc == 0x104) = true := by decide

theorem test_atl_V47_14 :
    step ((machine 0 0 0x100 [] [(0, 0x0800, 0x0405), (0, 0x0802, 0x0000)]).withFetchWord 32 0x64500800) = .refused .listInconsistent := by rfl

theorem test_abl_V47_4 :
    runs (machine 0 0 0x100 [(5, 0x1111)] [(0, 0x0800, 0x0400), (0, 0x0802, 0x0000)]) 32 0x65500800 (fun t =>
      (t.cc &&& 0b1111) == 0b0000 &&
      t.byteAt 0 0x800 == 4 && t.byteAt 0 0x801 == 1 && t.byteAt 0 0x802 == 0 && t.byteAt 0 0x803 == 1 &&
      t.halfAt 0 0x0804 == 0x1111 && t.loc == 0x104) = true := by decide

theorem test_abl_V47_5 :
    runs (machine 0 0 0x100 [(5, 0xBBBB)] [(0, 0x0808, 0x0009), (0, 0x0800, 0x0401), (0, 0x0802, 0x0203)]) 32
      0x65500800 (fun t => (t.cc &&& 0b1111) == 0b0000 &&
      t.byteAt 0 0x800 == 4 && t.byteAt 0 0x801 == 2 && t.byteAt 0 0x802 == 2 && t.byteAt 0 0x803 == 0 &&
      t.halfAt 0 0x080A == 0xBBBB && t.loc == 0x104) = true := by decide

theorem test_rtl_V47_7 :
    runs (machine 0 0 0x100 [] [(0, 0x080A, 0x2222), (0, 0x0800, 0x0402), (0, 0x0802, 0x0301)]) 32 0x66500800
      (fun t => t.reg 5 == 0x2222 && (t.cc &&& 0b1111) == 0b0010 &&
      t.byteAt 0 0x800 == 4 && t.byteAt 0 0x801 == 1 && t.byteAt 0 0x802 == 0 && t.byteAt 0 0x803 == 1 &&
      t.loc == 0x104) = true := by decide

theorem test_rtl_V47_8 :
    runs (machine 0 0 0x100 [] [(0, 0x080A, 0x7777), (0, 0x0800, 0x0401), (0, 0x0802, 0x0300)]) 32 0x66500800
      (fun t => t.reg 5 == 0x7777 && (t.cc &&& 0b1111) == 0b0000 &&
      t.byteAt 0 0x800 == 4 && t.byteAt 0 0x801 == 0 && t.byteAt 0 0x802 == 0 && t.byteAt 0 0x803 == 0 &&
      t.loc == 0x104) = true := by decide

theorem test_rbl_V47_11 :
    runs (machine 0 0 0x100 [] [(0, 0x0804, 0x1111), (0, 0x0800, 0x0401), (0, 0x0802, 0x0001)]) 32 0x67500800
      (fun t => t.reg 5 == 0x1111 && (t.cc &&& 0b1111) == 0b0000 &&
      t.byteAt 0 0x800 == 4 && t.byteAt 0 0x801 == 0 && t.byteAt 0 0x802 == 0 && t.byteAt 0 0x803 == 0 &&
      t.loc == 0x104) = true := by decide

theorem test_rbl_V47_12 :
    runs (machine 0 0 0x100 [(5, 0x5555)] [(0, 0x0800, 0x0400), (0, 0x0802, 0x0000)]) 32 0x67500800 (fun t =>
      (t.cc &&& 0b1111) == 0b0100 && t.loc == 0x104 && t.reg 5 == 0x5555 &&
      t.byteAt 0 0x800 == 4 && t.byteAt 0 0x801 == 0 && t.byteAt 0 0x802 == 0 && t.byteAt 0 0x803 == 0) = true := by decide

/-! Instructions without a row there, and the device instructions. -/

theorem test_lh0 :
    runs (machine 0x002 0 0x100 [] [(0, 0x0200, 0x1234), (2, 0x0200, 0x9999)]) 32 0x74100200 (fun t =>
      t.reg 1 == 0x1234) = true := by decide

theorem test_lh1 :
    runs (machine 0x002 0 0x100 [] [(1, 0x0200, 0x1234), (2, 0x0200, 0x9999)]) 32 0x75100200 (fun t =>
      t.reg 1 == 0x1234) = true := by decide

theorem test_lh3 :
    runs (machine 0x002 0 0x100 [] [(3, 0x0200, 0x1234), (2, 0x0200, 0x9999)]) 32 0x77100200 (fun t =>
      t.reg 1 == 0x1234) = true := by decide

theorem test_sth0 :
    runs (machine 0x003 0 0x100 [(7, 0xABCD)] []) 32 0xF8700400 (fun t => t.halfAt 0 0x0400 == 0xABCD &&
      t.halfAt 3 0x0400 == 0) = true := by decide

theorem test_sth1 :
    runs (machine 0x003 0 0x100 [(7, 0xABCD)] []) 32 0xF9700400 (fun t => t.halfAt 1 0x0400 == 0xABCD &&
      t.halfAt 3 0x0400 == 0) = true := by decide

theorem test_sth2 :
    runs (machine 0x003 0 0x100 [(7, 0xABCD)] []) 32 0xFA700400 (fun t => t.halfAt 2 0x0400 == 0xABCD &&
      t.halfAt 3 0x0400 == 0) = true := by decide

theorem test_ah :
    runs (machine 0 0 0x100 [(1, 0x7FFF)] [(0, 0x0200, 0x0001)]) 32 0x4A100200 (fun t => t.reg 1 == 0x8000 &&
      t.cc == 0b0101) = true := by decide

theorem test_sh :
    runs (machine 0 0 0x100 [(1, 0x0000)] [(0, 0x0200, 0x0001)]) 32 0x4B100200 (fun t => t.reg 1 == 0xFFFF &&
      t.cc == 0b1001) = true := by decide

theorem test_mhu :
    runs (machine 0 0b1010 0x100 [(3, 0xFFFF)] [(0, 0x0200, 0xFFFF)]) 32 0xDC200200 (fun t => t.reg 2 == 0xFFFE &&
      t.reg 3 == 0x0001 && t.cc == 0b1010) = true := by decide

theorem test_nh :
    runs (machine 0 0 0x100 [(1, 0xF0F0)] [(0, 0x0200, 0x3CC3)]) 32 0x44100200 (fun t =>
      t.reg 1 == 0x30C0) = true := by decide

theorem test_oh :
    runs (machine 0 0 0x100 [(1, 0xF0F0)] [(0, 0x0200, 0x3CC3)]) 32 0x46100200 (fun t =>
      t.reg 1 == 0xFCF3) = true := by decide

theorem test_xh :
    runs (machine 0 0 0x100 [(1, 0xF0F0)] [(0, 0x0200, 0x3CC3)]) 32 0x47100200 (fun t =>
      t.reg 1 == 0xCC33) = true := by decide

theorem test_ohi :
    runs (machine 0 0 0x100 [(1, 0x00F0), (2, 0x0F00)] []) 32 0xC6120001 (fun t => t.reg 1 == 0x0FF1 &&
      t.reg 2 == 0x0F00) = true := by decide

theorem test_ssr :
    runs (answering (machine 0 0 0x100 [(1, 0xFF05)] []) [] ({ reply with status := 0x8C })) 16 0x9D12 (fun t =>
      t.reg 2 == 0x008C && t.cc == 0xC && t.requests == [.sense 5] && t.answers == []) = true := by decide

theorem test_ssr_timeout :
    runs (answering (machine 0 0 0x100 [(1, 0x0005)] []) [] ({ reply with status := 0xF0, timeout := true })) 16
      0x9D12 (fun t => t.reg 2 == 0x0004 && t.cc == 0b0100) = true := by decide

theorem test_ss :
    runs (answering (machine 0 0 0x100 [(1, 0x0005)] [(0, 0x0200, 0xAAAA)]) [] ({ reply with status := 0x8C })) 32
      0xDD100201 (fun t => t.halfAt 0 0x0200 == 0xAA8C && t.cc == 0xC) = true := by decide

theorem test_air :
    runs (answering (machine 0 0 0x100 [] []) [0x22, 0x33] ({ reply with device := 0x22, status := 0x01 })) 16 0x9F12
      (fun t => t.reg 1 == 0x0022 && t.reg 2 == 0x0001 && t.cc == 0b0001 && t.pending == [0x33] &&
      t.requests == [.ack]) = true := by decide

/-- Without a request the oracle answers with a time-out (R363): bits 0:3 of the status are zero and bit 5 is one. -/
theorem test_air_no_request :
    runs (answering (machine 0 0 0x100 [] []) [] ({ reply with device := 0x22, status := 0xF1 })) 16 0x9F12
      (fun t => t.reg 2 == 0x0005 && t.cc == 0b0101 && t.pending == []) = true := by decide

theorem test_ai :
    runs (answering (machine 0 0 0x100 [] [(0, 0x0200, 0xAAAA)]) [0x22]
      ({ reply with device := 0x22, status := 0x01 })) 32 0xDF100200 (fun t => t.reg 1 == 0x0022 &&
      t.halfAt 0 0x0200 == 0x01AA && t.cc == 0b0001 && t.pending == []) = true := by decide

theorem test_ocr :
    runs (answering (machine 0 0 0x100 [(1, 0x0005), (2, 0x1234)] []) [] (reply)) 16 0x9E12 (fun t =>
      t.requests == [.command 5 0x34] && t.reg 2 == 0x1234 && t.loc == 0x102) = true := by decide

theorem test_oc :
    runs (answering (machine 0 0 0x100 [(1, 0x0005)] [(0, 0x0200, 0x1234)]) [] (reply)) 32 0xDE100200 (fun t =>
      t.requests == [.command 5 0x12] && t.loc == 0x104) = true := by decide

theorem test_rdr :
    runs (answering (machine 0 0 0x100 [(1, 0x0005), (2, 0xFFFF)] []) [] ({ reply with byte := 0x5A })) 16 0x9B12
      (fun t => t.reg 2 == 0x005A && t.requests == [.read8 5]) = true := by decide

theorem test_rd :
    runs (answering (machine 0 0 0x100 [(1, 0x0005)] [(0, 0x0200, 0xAAAA)]) [] ({ reply with byte := 0x5A })) 32
      0xDB100201 (fun t => t.halfAt 0 0x0200 == 0xAA5A && t.requests == [.read8 5]) = true := by decide

theorem test_rhr :
    runs (answering (machine 0 0 0x100 [(1, 0x0005)] []) [] ({ reply with half := 0x1234 })) 16 0x9912 (fun t =>
      t.reg 2 == 0x1234 && t.requests == [.read16 5]) = true := by decide

theorem test_rh :
    runs (answering (machine 0 0 0x100 [(1, 0x0005)] []) [] ({ reply with half := 0x1234 })) 32 0xD9100200 (fun t =>
      t.halfAt 0 0x0200 == 0x1234 && t.requests == [.read16 5]) = true := by decide

theorem test_wdr :
    runs (answering (machine 0 0 0x100 [(1, 0x0005), (2, 0x1234)] []) [] (reply)) 16 0x9A12 (fun t =>
      t.requests == [.write8 5 0x34]) = true := by decide

theorem test_wd :
    runs (answering (machine 0 0 0x100 [(1, 0x0005)] [(0, 0x0200, 0x1234)]) [] (reply)) 32 0xDA100201 (fun t =>
      t.requests == [.write8 5 0x34]) = true := by decide

theorem test_whr :
    runs (answering (machine 0 0 0x100 [(1, 0x0005), (2, 0x1234)] []) [] (reply)) 16 0x9812 (fun t =>
      t.requests == [.write16 5 0x1234]) = true := by decide

theorem test_wh :
    runs (answering (machine 0 0 0x100 [(1, 0x0005)] [(0, 0x0200, 0x1234)]) [] (reply)) 32 0xD8100200 (fun t =>
      t.requests == [.write16 5 0x1234]) = true := by decide

theorem test_rbr :
    runs (answering (machine 0 0 0x100 [(1, 0x0005), (2, 0x0300), (3, 0x0301)] []) []
      ({ reply with bytes := [0xAA, 0xBB, 0xCC] })) 16 0x9712 (fun t => t.halfAt 0 0x0300 == 0xAABB && t.cc == 0 &&
      t.requests == [.blockIn 5 2] && t.reg 2 == 0x0300) = true := by decide

theorem test_rbr_empty :
    runs (answering (machine 0 0b1111 0x100 [(1, 0x0005), (2, 0x0301), (3, 0x0300)] []) [] (reply)) 16 0x9712
      (fun t => t.requests == [] && t.cc == 0) = true := by decide

theorem test_rb :
    runs (answering (machine 0 0 0x100 [(1, 0x0005)] [(0, 0x0200, 0x0300), (0, 0x0202, 0x0301)]) []
      ({ reply with bytes := [0xAA, 0xBB] })) 32 0xD7100200 (fun t => t.halfAt 0 0x0300 == 0xAABB &&
      t.cc == 0) = true := by decide

theorem test_wbr :
    runs (answering (machine 0 0 0x100 [(1, 0x0005), (2, 0x0301), (3, 0x0302)]
      [(0, 0x0300, 0x1234), (0, 0x0302, 0x5678)]) [] ({ reply with accepted := 2 })) 16 0x9612 (fun t =>
      t.requests == [.blockOut 5 [0x34, 0x56]] && t.cc == 0) = true := by decide +kernel

theorem test_wb :
    runs (answering (machine 0 0 0x100 [(1, 0x0005)] [(0, 0x0200, 0x0300), (0, 0x0202, 0x0301), (0, 0x0300, 0x1234)])
      [] ({ reply with accepted := 2 })) 32 0xD6100200 (fun t => t.requests == [.blockOut 5 [0x12, 0x34]] &&
      t.cc == 0) = true := by decide +kernel

theorem test_al :
    runs (answering (machine 0 0 0x100 [] [(0, 0x0078, 0x0501)]) []
      ({ reply with bytes := [0, 0, 0x11, 0x22, 0x33] })) 32 0xD5000081 (fun t => t.halfAt 0 0x0080 == 0x1122 &&
      t.halfAt 0 0x0082 == 0 && t.cc == 0 && t.requests == [.autoload 5 1 2]) = true := by decide

/-! The compares, tests and loads, whose other flags are free: C, G and L. Expected values by hand from
42_logical_compare_byte.md R217, R218, R225 and 45_floating_point.md R315. -/

theorem test_lcs_flags : ∃ t, exec (.lcs 2 15) (machine 0 0 0x100 [] []) = .next t ∧ flagG t = false ∧ flagL t = true :=
  ⟨_, rfl, flag_g rfl (by decide), flag_l rfl (by decide)⟩

theorem test_clhr_flags : ∃ t, exec (.clhr 1 2) (machine 0 0 0x100 [(1, 0x0001), (2, 0xFFFF)] []) = .next t ∧
    flagC t = true ∧ flagG t = true ∧ flagL t = false :=
  ⟨_, rfl, flag_c rfl (by decide), flag_g rfl (by decide), flag_l rfl (by decide)⟩

theorem test_clh_flags : ∃ t, exec (.clh 1 0 0x0200) (machine 0 0 0x100 [(1, 0xFFFF)] [(0, 0x0200, 0x0001)]) = .next t ∧
    flagC t = false ∧ flagG t = false ∧ flagL t = true :=
  ⟨_, rfl, flag_c rfl (by decide), flag_g rfl (by decide), flag_l rfl (by decide)⟩

theorem test_clhi_flags : ∃ t, exec (.clhi 1 0 0x1234) (machine 0 0 0x100 [(1, 0x1234)] []) = .next t ∧
    flagC t = false ∧ flagG t = false ∧ flagL t = false :=
  ⟨_, rfl, flag_c rfl (by decide), flag_g rfl (by decide), flag_l rfl (by decide)⟩

theorem test_clb_flags : ∃ t, exec (.clb 1 0 0x0200) (machine 0 0 0x100 [(1, 0x0000)] [(0, 0x0200, 0xFF00)]) = .next t ∧
    flagC t = true ∧ flagG t = true ∧ flagL t = false :=
  ⟨_, rfl, flag_c rfl (by decide), flag_g rfl (by decide), flag_l rfl (by decide)⟩

theorem test_chr_flags : ∃ t, exec (.chr 1 2) (machine 0 0 0x100 [(1, 0x0001), (2, 0xFFFF)] []) = .next t ∧
    flagC t = false ∧ flagG t = true ∧ flagL t = false :=
  ⟨_, rfl, flag_c rfl (by decide), flag_g rfl (by decide), flag_l rfl (by decide)⟩

theorem test_ch_flags : ∃ t, exec (.ch 1 0 0x0200) (machine 0 0 0x100 [(1, 0x8000)] [(0, 0x0200, 0x7FFF)]) = .next t ∧
    flagC t = true ∧ flagG t = false ∧ flagL t = true :=
  ⟨_, rfl, flag_c rfl (by decide), flag_g rfl (by decide), flag_l rfl (by decide)⟩

theorem test_chi_flags : ∃ t, exec (.chi 1 2 0xFFFF) (machine 0 0 0x100 [(1, 0x0004), (2, 0x0005)] []) = .next t ∧
    flagC t = false ∧ flagG t = false ∧ flagL t = false :=
  ⟨_, rfl, flag_c rfl (by decide), flag_g rfl (by decide), flag_l rfl (by decide)⟩

/-- The source's own example: bit 6 of register 3 (spec/95_test_vectors.md S1). -/
theorem test_thi_flags : ∃ t, exec (.thi 3 0 0x0200) (machine 0 0 0x100 [(3, 0x0200)] []) = .next t ∧
    t.reg 3 = 0x0200 ∧ flagG t = true ∧ flagL t = false :=
  ⟨_, rfl, by decide, flag_g rfl (by decide), flag_l rfl (by decide)⟩

theorem test_cer_flags : ∃ t, exec (.cer 0 2) (machine 0 0 0x100 [] [(0, 0, 0xC110), (0, 4, 0x4110)]) = .next t ∧
    flagC t = true ∧ flagG t = false ∧ flagL t = true :=
  ⟨_, rfl, flag_c rfl (by decide), flag_g rfl (by decide), flag_l rfl (by decide)⟩

theorem test_ce_flags : ∃ t, exec (.ce 0 0 0x0300) (machine 0 0 0x100 [] [(0, 0, 0x4110), (0, 0x0300, 0x4080)]) = .next t ∧
    flagC t = false ∧ flagG t = true ∧ flagL t = false :=
  ⟨_, rfl, flag_c rfl (by decide), flag_g rfl (by decide), flag_l rfl (by decide)⟩

theorem test_rdr_timeout_flag : ∃ t, exec (.rdr 1 2) (answering (machine 0 0 0x100 [] []) [] { reply with timeout := true }) =
    .next t ∧ flagV t = true :=
  ⟨_, rfl, flagV_setTransferCC _ _⟩

/-! The annex machine, one instruction each. Expected values by hand from 49_annex_central_computer.md. -/

/-- `exec` on the annex machine `c` answers a state whose annex machine passes `p`. -/
def centralRuns (c : Central) (i : Instr) (p : Central → Bool) : Bool :=
  match exec i { State.reset with central := c, active := .central } with
  | .next t => p t.central
  | _ => false

theorem test_tru : ∃ t, exec (.tru 3 7) State.reset = .next t ∧ t.central.pc = Config.centralLocation 0 3 7 := ⟨_, rfl, rfl⟩

theorem test_trn_minus_zero : ∃ t, exec (.trn 3 7) { State.reset with central := { Central.reset with acc := 0x20000 } } =
    .next t ∧ t.central.pc = Config.centralLocation 0 3 7 := ⟨_, rfl, rfl⟩

theorem test_trn_not : centralRuns { Central.reset with acc := 0x1FFFF } (.trn 3 7) (fun c => c.pc == 1) = true := by decide

theorem test_trz_minus_zero : ∃ t, exec (.trz 3 7) { State.reset with central := { Central.reset with acc := 0x20000 } } =
    .next t ∧ t.central.pc = Config.centralLocation 0 3 7 := ⟨_, rfl, rfl⟩

theorem test_trz_not : centralRuns { Central.reset with acc := 0x20001 } (.trz 3 7) (fun c => c.pc == 1) = true := by decide

theorem test_tof : ∃ t, exec (.tof 3 7) { State.reset with central := { Central.reset with overflow := true } } =
    .next t ∧ t.central.pc = Config.centralLocation 0 3 7 ∧ t.central.overflow = false := ⟨_, rfl, rfl, rfl⟩

theorem test_tsx : centralRuns { Central.reset with pc := 5 } (.tsx 3 7) (fun c => c.index[11] == 6) = true := by decide

theorem test_cma_minus_zero : centralRuns { Central.reset with acc := 0x20000 } (.cma 3 7)
    (fun c => !c.compareHigh && c.compareLow) = true := by decide

theorem test_cml : centralRuns { Central.reset with acc := 0x20000 } (.cml 3 7)
    (fun c => c.compareHigh && !c.compareLow) = true := by decide

theorem test_tre : ∃ t, exec (.tre 3 7)
    { State.reset with central := { Central.reset with compareHigh := true, compareLow := true } } = .next t ∧
    t.central.pc = Config.centralLocation 0 3 7 := ⟨_, rfl, rfl⟩

theorem test_trh : centralRuns { Central.reset with compareHigh := true, compareLow := true } (.trh 3 7)
    (fun c => c.pc == 1) = true := by decide

theorem test_trl : centralRuns { Central.reset with compareHigh := true, compareLow := true } (.trl 3 7)
    (fun c => c.pc == 1) = true := by decide

theorem test_lck_skips : centralRuns { Central.reset with dual := true, otherLock := 1 } (.lck 0x155)
    (fun c => c.pc == 2 && c.lock == 0x155) = true := by decide

theorem test_lck_single : centralRuns Central.reset (.lck 0x155) (fun c => c.pc == 1 && c.lock == 0) = true := by decide

theorem test_ulk_single : centralRuns { Central.reset with lock := 0x155 } .ulk
    (fun c => c.pc == 1 && c.lock == 0x155) = true := by decide

theorem test_add_minus_zero : centralRuns { Central.reset with acc := 0x20000 } (.add 3 7)
    (fun c => c.acc == 0x20000 && !c.overflow && c.pc == 1) = true := by decide

theorem test_sub : centralRuns { Central.reset with acc := 0x20005 } (.sub 3 7)
    (fun c => c.acc == 0x20005 && !c.overflow) = true := by decide

theorem test_mly_sign : centralRuns { Central.reset with acc := 0x20003 } (.mly 3 7)
    (fun c => c.acc == 0x20000 && c.q == 0x20000) = true := by decide

theorem test_div_check : centralRuns { Central.reset with acc := 1, q := 2 } (.div 3 7)
    (fun c => c.divideCheck && c.acc == 1 && c.q == 2 && c.pc == 1) = true := by decide

theorem test_dpa : centralRuns { Central.reset with acc := 0x20001, q := 0x20002 } (.dpa 3 7)
    (fun c => c.acc == 0x20001 && c.q == 0x20002 && !c.overflow) = true := by decide

theorem test_sqr_root : squareRoot 144 17 0 = 12 ∧ squareRoot 143 17 0 = 11 := by decide +kernel

theorem test_sqr_negative : centralRuns { Central.reset with acc := 0x20001 } .sqr
    (fun c => c.divideCheck && c.acc == 0x20001) = true := by decide

theorem test_cla : centralRuns { Central.reset with acc := 5 } (.cla 3 7) (fun c => c.acc == 0) = true := by decide

theorem test_ldq : centralRuns { Central.reset with acc := 5, q := 6 } (.ldq 3 7)
    (fun c => c.q == 0 && c.acc == 5) = true := by decide

theorem test_str : ∃ t, exec (.str 3 7) { State.reset with central := { Central.reset with acc := 5 } } = .next t ∧
    t.central.word (Config.centralLocation 0 3 7) = 5 :=
  ⟨_, rfl, word_putWord_self { Central.reset with acc := 5 } (Config.centralLocation 0 3 7) 5⟩

theorem test_stq : ∃ t, exec (.stq 3 7) { State.reset with central := { Central.reset with q := 5 } } = .next t ∧
    t.central.word (Config.centralLocation 0 3 7) = 5 :=
  ⟨_, rfl, word_putWord_self { Central.reset with q := 5 } (Config.centralLocation 0 3 7) 5⟩

theorem test_inx : centralRuns (Central.reset.setIndex 3 7) (.inx 3 5) (fun c => c.indexValue 3 == 12 && c.pc == 1) =
    true := by decide

theorem test_inx_none : centralRuns (Central.reset.setIndex 3 7) (.inx 13 5)
    (fun c => c.indexValue 3 == 7 && c.pc == 1) = true := by decide

theorem test_dcx : centralRuns (Central.reset.setIndex 3 7) (.dcx 3 5) (fun c => c.indexValue 3 == 2) = true := by decide

theorem test_trx : centralRuns (Central.reset.setIndex 3 7) (.trx 3 true 5) (fun c => c.indexValue 3 == 6) = true := by
  decide

theorem test_trx_zero : centralRuns Central.reset (.trx 3 true 5)
    (fun c => c.indexValue 3 == 0 && c.pc == 1) = true := by decide

theorem test_sxh : centralRuns (Central.reset.setIndex 3 6) (.sxh 3 false 5) (fun c => c.pc == 2) = true := by decide

theorem test_sxh_equal : centralRuns (Central.reset.setIndex 3 5) (.sxh 3 false 5) (fun c => c.pc == 1) = true := by decide

theorem test_lga : centralRuns { Central.reset with acc := 0x25 } (.lga 3 7) (fun c => c.acc == 0x25) = true := by decide

theorem test_lgm : centralRuns { Central.reset with acc := 0x25 } (.lgm 3 7) (fun c => c.acc == 0) = true := by decide

theorem test_lgc : centralRuns { Central.reset with acc := 0x25 } (.lgc 3 7) (fun c => c.acc == 0x25) = true := by decide

theorem test_cgc : ∃ t, exec (.cgc 3 7) State.reset = .next t ∧ t.central.acc = Config.centralGray 0 := ⟨_, rfl, rfl⟩

theorem test_lsa : centralRuns { Central.reset with acc := 0x30001 } (.lsa 0 1)
    (fun c => c.acc == 0x20002 && c.overflow && c.q == 0) = true := by decide

theorem test_lsa_illegal : centralRuns { Central.reset with acc := 5 } (.lsa 13 1)
    (fun c => c.acc == 5 && c.illegalIndicator && c.pc == 1) = true := by decide

theorem test_lsb : centralRuns { Central.reset with acc := 0, q := 0x3FFFF } (.lsb 0 1)
    (fun c => c.acc == 0x20001 && c.q == 0x3FFFE && !c.overflow) = true := by decide

theorem test_rsa : centralRuns { Central.reset with acc := 0x20005 } (.rsa 0 1) (fun c => c.acc == 0x20002) = true := by
  decide

theorem test_rsb : centralRuns { Central.reset with acc := 0x20001, q := 1 } (.rsb 0 1)
    (fun c => c.acc == 0x20000 && c.q == 0x30000) = true := by decide

theorem test_rra : centralRuns { Central.reset with acc := 1 } (.rra 0 1) (fun c => c.acc == 0x20000) = true := by decide

theorem test_rrq : centralRuns { Central.reset with q := 3 } (.rrq 0 1) (fun c => c.q == 0x20001) = true := by decide

theorem test_lrb : centralRuns { Central.reset with acc := 0x20000, q := 1 } (.lrb 0 1)
    (fun c => c.acc == 0 && c.q == 3) = true := by decide

theorem test_rrb : centralRuns { Central.reset with acc := 1, q := 1 } (.rrb 0 1)
    (fun c => c.acc == 0x20000 && c.q == 0x20000 && c.indicator 1) = true := by decide

theorem test_sap : centralRuns { Central.reset with acc := 0x20005 } .sap (fun c => c.acc == 5) = true := by decide

theorem test_csa : centralRuns { Central.reset with acc := 5 } .csa (fun c => c.acc == 0x20005) = true := by decide

theorem test_xca : centralRuns { Central.reset with acc := 5, q := 6 } .xca (fun c => c.acc == 6 && c.q == 5) = true := by
  decide

theorem test_cpa : centralRuns { Central.reset with acc := 0x20001 } .cpa (fun c => c.acc == 0x3FFFF) = true := by decide

theorem test_cpa_minus_zero : centralRuns { Central.reset with acc := 0x20000 } .cpa (fun c => c.acc == 0x20000) = true := by
  decide

theorem test_lpr : ∃ t, exec .lpr State.reset = .next t ∧ t.central.pc = 1 := by
  show ∃ t, execLpr State.reset = .next t ∧ t.central.pc = 1
  unfold execLpr
  dsimp only
  split
  · split <;> exact ⟨_, rfl, rfl⟩
  · exact ⟨_, rfl, rfl⟩

theorem test_rpr : centralRuns { Central.reset with acc := 5, q := 9 } .rpr (fun c => c.acc == 6 && c.q == 0) = true := by
  decide

theorem test_lbi : centralRuns { Central.reset with q := 0x3D } (.lbi 2)
    (fun c => c.blockIndicators[2] == 0xD && c.blockIndicators[3] == 0) = true := by decide

theorem test_rbi : ∃ t, exec (.rbi 2) { State.reset with central :=
      { Central.reset with blockIndicators := (Vector.replicate 8 0).set 2 0xD } } = .next t ∧
    t.central.q = ((Config.centralWord 0).extractLsb' 12 6 ++ 0xD#4) ++ (Config.centralWord 0).extractLsb' 0 8 :=
  ⟨_, rfl, rfl⟩

theorem test_sei_f3 : centralRuns Central.reset (.sei 0x3FF) (fun c => !c.indicator 2 && c.indicator 6) = true := by decide

theorem test_rei_f7 : centralRuns Central.reset (.rei 0x3FF) (fun c => c.indicator 6) = true := by decide

theorem test_ski_none_named : centralRuns Central.reset (.ski 0) (fun c => c.pc == 2) = true := by
  have none (j : Fin 10) : namesIndicator 0 j = false := by simp [namesIndicator]
  simp only [centralRuns, exec, execSki, none]
  decide

theorem test_pia_all_off : centralRuns { Central.reset with acc := 5, indicators := Vector.replicate 10 false } .pia
    (fun c => c.acc == 0) = true := by decide

theorem test_pai_f1 : centralRuns { Central.reset with acc := 0x3FFFF } .pai
    (fun c => !c.indicator 0 && !c.indicator 2 && c.indicator 6) = true := by decide

theorem test_skw : centralRuns { Central.reset with switches := 0x201 } (.skw 0x201) (fun c => c.pc == 2) = true := by decide

theorem test_skw_one_off : centralRuns { Central.reset with switches := 0x200 } (.skw 0x201) (fun c => c.pc == 1) = true := by
  decide

theorem test_exf : centralRuns { Central.reset with pc := 4, mem := [(7, 0x155)] } (.exf 2 true 3)
    (fun c => c.actions == [.external 2 0x155] && c.pc == 5) = true := by decide

theorem test_exf_absent : centralRuns { Central.reset with lowChannels := false } (.exf 2 false 3)
    (fun c => c.actions == [] && c.pc == 1) = true := by decide

theorem test_twa : centralRuns Central.reset .twa
    (fun c => c.keyboardLight && !c.consoleNotBusy && c.actions == [.keyboardOn]) = true := by decide

theorem test_twf : centralRuns { Central.reset with keyboardLight := true, consoleNotBusy := false } .twf
    (fun c => !c.keyboardLight && c.consoleNotBusy) = true := by decide

theorem test_otw : centralRuns { Central.reset with q := 0x2A5 } .otw
    (fun c => !c.consoleNotBusy && c.actions == [.printed 0x25]) = true := by decide

theorem test_otw_busy : centralRuns { Central.reset with q := 0x2A5, consoleNotBusy := false } .otw
    (fun c => c.actions == [] && c.pc == 1) = true := by decide

theorem test_ipc_six : centralRuns { Central.reset with q := 0x3FF80, consoleBuffer := 0x41 } .ipc
    (fun c => c.q == 0x3FF81) = true := by decide

theorem test_ipc_seven : centralRuns { Central.reset with q := 0x3FF80, consoleBuffer := 0x41, level7 := true } .ipc
    (fun c => c.q == 0x3FFC1) = true := by decide

theorem test_cta : centralRuns Central.reset .cta
    (fun c => !c.consoleNotBusy && c.actions == [.tapeAdvance]) = true := by decide

theorem test_cts : centralRuns { Central.reset with consoleNotBusy := false } .cts
    (fun c => c.consoleNotBusy && c.actions == [.tapeStop]) = true := by decide

theorem test_ctr : centralRuns Central.reset .ctr
    (fun c => c.consoleNotBusy && c.actions == [.tapeRewind]) = true := by decide

theorem test_pmo : centralRuns Central.reset .pmo (fun c => c.actions == [.recordOn]) = true := by decide

theorem test_pmf : centralRuns Central.reset .pmf (fun c => c.actions == [.recordOff 86]) = true := by decide

theorem test_opa : centralRuns { Central.reset with q := 0x43 } .opa
    (fun c => !c.consoleNotBusy && c.actions == [.frame6 3 true]) = true := by decide

theorem test_opb : centralRuns { Central.reset with q := 0x43 } .opb
    (fun c => c.consoleBuffer == 0x43 && c.actions == [.frame7 0x43 false]) = true := by decide

/-- An unassigned sub-operation with the restart pushbutton enabled restarts at location zero (R524). -/
theorem test_central_illegal : (match step { State.reset with active := .central, central :=
      { Central.reset with pc := 4, restartEnabled := true, mem := [(4, 0b01101_0000_000_000000)] } } with
    | .next t => t.central.pc == 0 && t.central.illegalIndicator
    | _ => false) = true := by decide

/-! Witnesses: for each statement with hypotheses, a state and operands that meet them together. -/

/-- Under the default platform every byte address finds memory. -/
theorem ready_byte {s : State} (h : s.platform.installed = Config.platform.installed) (b : Bank) (e : Half) : ByteReady s b e := by
  have := b.isLt
  have := e.isLt
  unfold ByteReady State.present addr18
  rw [h]
  simp only [Config.platform, List.any_cons, List.any_nil, Bool.or_false, Bool.and_eq_true, decide_eq_true_eq]
  omega

theorem ready_half {s : State} (h : s.platform.installed = Config.platform.installed) (b : Bank) {e : Half} (even : e.getLsbD 0 = false) :
    HalfReady s b e := ⟨even, ready_byte h _ _, ready_byte h _ _⟩

theorem ready_full {s : State} (h : s.platform.installed = Config.platform.installed) (b : Bank) {e : Half} (even : e.getLsbD 0 = false)
    (even2 : (e + 2).getLsbD 0 = false) : FullReady s b e := ⟨ready_half h b even, ready_half h b even2⟩

theorem ready_vector {s : State} (h : s.platform = Config.platform) (k : Interrupt) : VectorReady s k := by
  have i : s.platform.installed = Config.platform.installed := by rw [h]
  unfold VectorReady
  rw [h]
  cases k <;> exact ⟨ready_full i _ rfl rfl, ready_full i _ rfl rfl⟩

theorem witness_StepKeepsInvariant : Invariant State.reset ∧ ∃ t, step State.reset = .next t :=
  ⟨⟨storeWf_nil _, storeWf_nil _, storeWf_nil _, fun _ => rfl⟩, _, rfl⟩

theorem witness_DecodeOfEncode : [Instr.mhr 14 15, .eppr 14 15, .rbr 15 14, .bxle 13 15 0xFFFF, .lpsw 0 15 0xFFFF,
    .rrb 12 63, .lhr 15 15, .exf 7 true 511].all WellFormed = true := by decide

theorem witness_OperationCodes : (0x00 : Byte) ∉ operationCodes.map (·.1) ∧ (0xFF : Byte) ∉ operationCodes.map (·.1) := by
  decide

/-- A 32-bit instruction whose second halfword wraps to the start of the bank. -/
theorem witness_StepRunsDecoded_controller :
    let s := (machine 0 0 0xFFFE [] []).withFetchWord 32 0x48120200
    s.active = .controller ∧ s.deviceInterruptDue = false ∧ s.loc.getLsbD 0 = false ∧
      encode (.lh 1 2 0x0200) = .bytes [0x48, 0x12, 0x02, 0x00] ∧
      (∀ k < 4, ByteReady s s.pbank (s.loc + BitVec.ofNat 16 k)) ∧
      decode s.platform.aerAlias3A
        [s.byteAt s.pbank s.loc, s.byteAt s.pbank (s.loc + 1), s.byteAt s.pbank (s.loc + 2),
          s.byteAt s.pbank (s.loc + 3)] = .ok (.lh 1 2 0x0200) :=
  ⟨rfl, by decide, rfl, by decide, fun _ _ => ready_byte rfl _ _, by decide⟩

theorem witness_StepRunsDecoded_central :
    let s := State.reset.withFetchWord 18 0b11111_0000_000_000000
    s.active = .central ∧ decodeCentral (s.central.word s.central.pc) = some .sap := by decide

theorem witness_UnassignedCodeInterrupts :
    State.reset.active = .controller ∧ State.reset.deviceInterruptDue = false ∧
      HalfReady State.reset State.reset.pbank State.reset.loc ∧
      formOf State.reset.platform.aerAlias3A (State.reset.byteAt State.reset.pbank State.reset.loc) = none ∧
      VectorReady State.reset .illegalInstruction ∧ State.reset.platform.illegal.savesNext = false :=
  ⟨rfl, by decide, ready_half rfl _ rfl, Option.isNone_iff_eq_none.mp (by decide +kernel), ready_vector rfl _, rfl⟩

theorem witness_UnassignedCodeInterrupts_central :
    let s := State.reset.withFetchWord 18 0b01101_0000_000_000000
    s.active = .central ∧ decodeCentral (s.central.word s.central.pc) = none :=
  ⟨rfl, Option.isNone_iff_eq_none.mp (by decide +kernel)⟩

theorem witness_PrivilegedInProtectMode :
    let s := machine 0x010 0 0x100 [] []
    encode (.ai 1 2 3) = .bytes [0xDF, 0x12, 0x00, 0x03] ∧ encode (.lpsw 0 0 0) = .bytes [0xC2, 0, 0, 0] ∧
      encode (.epsr 1 2) = .bytes [0x95, 0x12] ∧ [0xC2, 0x95, 0xDF].all (privilegedCodes.contains ·) = true ∧
      s.prot = true ∧ VectorReady s .illegalInstruction :=
  ⟨by decide, by decide, by decide, by decide, by decide, ready_vector rfl _⟩

theorem witness_ModeChangesOnlyBy : ∃ t, exec (.lpsw 0 0 0x0200) (machine 0 0 0x100 [] [(0, 0x0200, 0x0100)]) = .next t ∧
    t.prot ≠ (machine 0 0 0x100 [] [(0, 0x0200, 0x0100)]).prot := ⟨_, rfl, by decide⟩

theorem witness_LoadHalfword : HalfReady State.reset State.reset.obank (State.reset.sum 0xFFFE 0) ∧
    HalfReady State.reset 3 (State.reset.sum 0xFFFE 0) := ⟨ready_half rfl _ rfl, ready_half rfl _ rfl⟩

theorem witness_StoreHalfword : HalfReady State.reset State.reset.obank (State.reset.sum 0 0) ∧
    HalfReady State.reset 3 (State.reset.sum 0xFFFE 0) := ⟨ready_half rfl _ rfl, ready_half rfl _ rfl⟩

theorem even_steps (a : Half) (h : a.getLsbD 0 = false) (k : Nat) : (a + BitVec.ofNat 16 (2 * k)).getLsbD 0 = false := by
  simp only [BitVec.getLsbD, Nat.testBit_zero, BitVec.toNat_add, BitVec.toNat_ofNat, decide_eq_false_iff_not] at *
  omega

/-- All sixteen registers, the addresses wrapping in the bank; and R15 alone. -/
theorem witness_LoadStoreMultiple :
    (∀ k < 16 - (0 : Reg).val, HalfReady State.reset State.reset.obank
      (State.reset.sum 0xFFFE 0 + BitVec.ofNat 16 (2 * k))) ∧
    ∀ k < 16 - (15 : Reg).val, HalfReady State.reset State.reset.obank
      (State.reset.sum 0xFFFE 0 + BitVec.ofNat 16 (2 * k)) :=
  ⟨fun k _ => ready_half rfl _ (even_steps _ rfl k), fun k _ => ready_half rfl _ (even_steps _ rfl k)⟩

theorem witness_AddHalfword : HalfReady State.reset State.reset.obank (State.reset.sum 0xFFFE 0) := ready_half rfl _ rfl

theorem witness_SubtractHalfword : HalfReady State.reset State.reset.obank (State.reset.sum 0 0) := ready_half rfl _ rfl

theorem witness_Multiply : (14 : Reg).val % 2 = 0 ∧ (15 : Reg).val % 2 = 1 ∧
    HalfReady State.reset State.reset.obank (State.reset.sum 0xFFFE 0) := ⟨rfl, rfl, ready_half rfl _ rfl⟩

/-- Quotients 32767, -32767, -32768 and +32768, and an odd R1. -/
theorem witness_Divide :
    let s := machine 0 0 0x100 [(0, 0x0000), (1, 0x7FFF), (2, 0x0001), (3, 0xFFFF), (4, 0xFFFF), (5, 0x8000)]
      [(0, 0x0200, 0x0001)]
    let quotient := fun (r1 : Reg) (d : Half) => (s.pair r1).toInt.tdiv d.toInt
    quotient 0 (s.reg 2) = 32767 ∧ quotient 0 (s.reg 3) = -32767 ∧ quotient 4 (s.reg 2) = -32768 ∧
      quotient 4 (s.reg 3) = 32768 ∧ s.reg 2 ≠ 0 ∧ (15 : Reg).val % 2 = 1 ∧
      s.halfAt s.obank (s.sum 0x0200 0) = 1 ∧ HalfReady s s.obank (s.sum 0x0200 0) ∧ s.platform.undefined = .refused ∧
      ({ s with platform := { s.platform with undefined := .goesOn } } : State).platform.undefined = .goesOn :=
  ⟨by decide, by decide, by decide, by decide, by decide, rfl, by decide, ready_half rfl _ rfl, rfl, rfl⟩

/-- A divisor of zero and a quotient of 32769, with the fault enabled and not. -/
theorem witness_DivideFaults :
    let regs : List (Reg × Half) := [(0, 0x0000), (1, 0x8001), (2, 0x0001)]
    let s := machine 0x100 0 0x100 regs []
    let u := machine 0 0 0x100 regs [(0, 0x0200, 0x0001)]
    (0 : Reg).val % 2 = 0 ∧ s.reg 3 = 0 ∧ 32768 < ((s.pair 0).toInt.tdiv (s.reg 2).toInt).natAbs ∧ s.fde = true ∧
      VectorReady s .fixedPointDivideFault ∧ u.fde = false ∧ HalfReady u u.obank (u.sum 0x0200 0) ∧
      32768 < ((u.pair 0).toInt.tdiv (u.halfAt u.obank (u.sum 0x0200 0)).toInt).natAbs :=
  ⟨rfl, by decide, by decide, by decide, ready_vector rfl _, by decide, ready_half rfl _ rfl, by decide⟩

theorem witness_Logical : HalfReady State.reset State.reset.obank (State.reset.sum 0xFFFE 0) := ready_half rfl _ rfl

theorem witness_CompareAndTest : HalfReady State.reset State.reset.obank (State.reset.sum 0xFFFE 0) ∧
    ByteReady State.reset State.reset.obank (State.reset.sum 0xFFFF 0) := ⟨ready_half rfl _ rfl, ready_byte rfl _ _⟩

theorem witness_ByteStorage : ByteReady State.reset State.reset.obank (State.reset.sum 0xFFFF 0) := ready_byte rfl _ _

theorem witness_FullwordShiftsAndRotates : (14 : Reg).val % 2 = 0 ∧ (1 : Reg).val % 2 = 1 := ⟨rfl, rfl⟩

theorem witness_IndexBranches : (13 : Reg).val ≤ 13 ∧ 13 < (14 : Reg).val := by decide

theorem witness_FloatingLoadStore :
    FprReady State.reset 14 28 ∧ FprReady State.reset 0 0 ∧
      FullReady State.reset State.reset.obank (State.reset.sum 0xFFFE 0) ∧
      State.reset.platform.fprAddress[(1 : Reg).val] = none ∧ State.reset.platform.fprAddress[(15 : Reg).val] = none :=
  ⟨⟨rfl, ready_full rfl _ rfl rfl⟩, ⟨rfl, ready_full rfl _ rfl rfl⟩, ready_full rfl _ rfl rfl, rfl, rfl⟩

/-- Loads of value zero, below the least normalized value and at it; normalized operands at the ends of the exponent
range; exponents that the guard digits reach and that they do not. -/
theorem witness_FloatingResultsNormalized : fpValue 0xC1000000 = 0 ∧ fpValue 0x000FFFFF = 2 ^ 20 - 1 ∧
    fpValue 0x80100000 = -(2 ^ 20) ∧ fpAccepted 0x00100000 = true ∧
    fpAccepted 0xFFFFFFFF = true ∧ fpAccepted 0 = true ∧ (0xFFFFFFFF : Full) ≠ 0 ∧
    (fpFields 0x40FFFFFF).exponent ≤ 65 ∧ 65 ≤ (fpFields 0x40FFFFFF).exponent + 1 := by decide

/-- The four clauses of a sum: zero, at the overflow bound, below the least normalized value, at it, and below the
overflow bound. -/
theorem witness_IsSum : (2 ^ 24 * 16 ^ 127 * 16 ^ 1 : Int).natAbs = 2 ^ 24 * 16 ^ 127 * 16 ^ 1 ∧
    (2 ^ 20 * 16 ^ 1 - 1 : Int).natAbs < 2 ^ 20 * 16 ^ 1 ∧ 2 ^ 20 * 16 ^ 1 ≤ (2 ^ 20 * 16 ^ 1 : Int).natAbs ∧
    (-(2 ^ 24 * 16 ^ 127 * 16 ^ 1 - 1) : Int).natAbs < 2 ^ 24 * 16 ^ 127 * 16 ^ 1 := by decide

/-- Both operand forms, with normalized operands and with one that is not. -/
theorem witness_FloatingAddSubtract :
    let u := machine 0 0 0x100 [] [(0, 0, 0x4110), (0, 4, 0x4200), (0, 0x0200, 0xFFFF), (0, 0x0202, 0xFFFF)]
    let s := { u with platform := { u.platform with undefined := .goesOn } }
    FprReady s 0 0 ∧ FprReady s 2 4 ∧ FullReady s s.obank (s.sum 0x0200 0) ∧ fpAccepted (fprWord s 0) = true ∧
      fpAccepted (s.fullAt s.obank (s.sum 0x0200 0)) = true ∧ s.fpe = false ∧
      (fpAccepted (fprWord s 0) && fpAccepted (fprWord s 4)) = false ∧ s.platform.undefined = .goesOn :=
  ⟨⟨rfl, ready_full rfl _ rfl rfl⟩, ⟨rfl, ready_full rfl _ rfl rfl⟩, ready_full rfl _ rfl rfl, by decide, by decide,
    by decide, by decide, rfl⟩

/-- The same with the fault enabled, on a platform that refuses unnormalized operands, the default. -/
theorem witness_FloatingAddSubtract_refused :
    let s := machine 0x040 0 0x100 [] [(0, 0, 0x4110), (0, 4, 0x4200), (0, 0x0200, 0xFFFF), (0, 0x0202, 0xFFFF)]
    FprReady s 0 0 ∧ FprReady s 2 4 ∧ FullReady s s.obank (s.sum 0x0200 0) ∧ fpAccepted (fprWord s 0) = true ∧
      fpAccepted (s.fullAt s.obank (s.sum 0x0200 0)) = true ∧ s.fpe = true ∧
      (fpAccepted (fprWord s 0) && fpAccepted (fprWord s 4)) = false ∧ s.platform.undefined = .refused :=
  ⟨⟨rfl, ready_full rfl _ rfl rfl⟩, ⟨rfl, ready_full rfl _ rfl rfl⟩, ready_full rfl _ rfl rfl, by decide, by decide,
    by decide, by decide, rfl⟩

theorem witness_FloatingCompare :
    let s := machine 0 0 0x100 [] [(0, 0, 0x4110), (0, 4, 0xFFFF), (0, 6, 0xFFFF), (0, 8, 0x4200)]
    FprReady s 0 0 ∧ FprReady s 2 4 ∧ FprReady s 4 8 ∧ FullReady s s.obank (s.sum 4 0) ∧ fpAccepted (fprWord s 0) = true ∧
      fpAccepted (fprWord s 4) = true ∧ fpAccepted (s.fullAt s.obank (s.sum 4 0)) = true ∧
      (fpAccepted (fprWord s 0) && fpAccepted (fprWord s 8)) = false ∧ s.platform.undefined = .refused ∧
      ({ s with platform := { s.platform with undefined := .goesOn } } : State).platform.undefined = .goesOn :=
  ⟨⟨rfl, ready_full rfl _ rfl rfl⟩, ⟨rfl, ready_full rfl _ rfl rfl⟩, ⟨rfl, ready_full rfl _ rfl rfl⟩,
    ready_full rfl _ rfl rfl, by decide, by decide, by decide, by decide, rfl, rfl⟩

/-- A divisor that is true zero, one that is not, and an operand that is not normalized. -/
theorem witness_FloatingMultiplyDivide :
    let s := machine 0 0 0x100 [] [(0, 0, 0x4110), (0, 8, 0x0010), (0, 12, 0x4200)]
    FprReady s 0 0 ∧ FprReady s 2 4 ∧ FprReady s 4 8 ∧ FprReady s 6 12 ∧ FullReady s s.obank (s.sum 8 0) ∧
      fpAccepted (fprWord s 0) = true ∧ fprWord s 4 = 0 ∧ fpAccepted (fprWord s 8) = true ∧ fprWord s 8 ≠ 0 ∧
      fpAccepted (s.fullAt s.obank (s.sum 8 0)) = true ∧ (fpAccepted (fprWord s 0) && fpAccepted (fprWord s 12)) = false ∧
      s.fpe = false ∧ s.platform.undefined = .refused ∧
      ({ s with platform := { s.platform with undefined := .goesOn } } : State).platform.undefined = .goesOn :=
  ⟨⟨rfl, ready_full rfl _ rfl rfl⟩, ⟨rfl, ready_full rfl _ rfl rfl⟩, ⟨rfl, ready_full rfl _ rfl rfl⟩,
    ⟨rfl, ready_full rfl _ rfl rfl⟩, ready_full rfl _ rfl rfl, by decide, by decide, by decide, by decide, by decide,
    by decide, by decide, rfl, rfl⟩

/-- The clauses of a product and of a quotient at their bounds: the sums and differences of exponents where overflow
begins, and magnitudes below and at the least normalized one. -/
theorem witness_IsProduct_IsQuotient :
    let e := fun (w : Full) => (fpFields w).exponent
    e 0x7F100000 + e 0x40100000 = 191 ∧ e 0x7F100000 + e 0x41100000 = 192 ∧
      (fpFields 0x40FFFFFF).fraction * (fpFields 0x00100000).fraction * 16 ^ (e 0x40FFFFFF + e 0x00100000) =
        (2 ^ 24 - 1) * 2 ^ 20 * 16 ^ 64 ∧
      e 0x00100000 + 63 < e 0x40100000 ∧ e 0x3F100000 ≤ e 0x00100000 + 63 ∧ e 0x00100000 + 64 < e 0x41100000 ∧
      e 0x40100000 ≤ e 0x00100000 + 64 := by decide

theorem witness_RaiseExchangesPsw : VectorReady State.reset .illegalInstruction ∧
    VectorReady State.reset .fixedPointDivideFault ∧ VectorReady State.reset .floatingPointFault :=
  ⟨ready_vector rfl _, ready_vector rfl _, ready_vector rfl _⟩

/-- SINT for device X'12' and a due interrupt of it: by the exchange, through an entry of the table, and without a
service. -/
theorem witness_RaiseExchangesPsw_service :
    let s := machine 0 0 0x100 [] [(0, 0x00F4, 0x0300)]
    let on := fun (v : DeviceService) =>
      { s with pending := [0x12], platform := { s.platform with service := v, interruptStatuses := [0] } }
    let table := on (.pointerTable ⟨2, 1, 4⟩)
    (on .exchange).prot = false ∧ ((on .exchange).sum 0x0012 0).extractLsb' 0 8 = 0x12 ∧
      ServiceReady (on .exchange) 0x12 ∧ ServiceReady table 0x12 ∧ table.active = .controller ∧
      table.ps ∈ table.platform.interruptStatuses ∧ table.pending = [0x12] ∧
      (on .notSpecified).platform.service = .notSpecified := by
  intro s on table
  have entry : table.halfAt 0 (serviceEntryAt ⟨2, 1, 4⟩ 0x12) = 0x0300 := by decide
  refine ⟨by decide, by decide, ?_, ?_, rfl, by decide, rfl, rfl⟩
  · show FullReady (on .exchange) 0 0x0040 ∧ FullReady (on .exchange) 0 0x0044
    exact ⟨ready_full rfl _ rfl rfl, ready_full rfl _ rfl rfl⟩
  show HalfReady table 0 (serviceEntryAt ⟨2, 1, 4⟩ 0x12) ∧ table.halfAt 0 (serviceEntryAt ⟨2, 1, 4⟩ 0x12) &&& 1 = 0 ∧
    FullReady table 0 (table.halfAt 0 (serviceEntryAt ⟨2, 1, 4⟩ 0x12)) ∧
    FullReady table 0 (table.halfAt 0 (serviceEntryAt ⟨2, 1, 4⟩ 0x12) + 4)
  rw [entry]
  exact ⟨ready_half rfl _ (by decide), by decide, ready_full rfl _ rfl rfl, ready_full rfl _ rfl rfl⟩

theorem witness_LoadPsw : State.reset.prot = false ∧ FullReady State.reset State.reset.obank (State.reset.sum 0xFFFE 0) ∧
    (15 : Reg) ≠ 0 := ⟨by decide, ready_full rfl _ rfl rfl, by decide⟩

theorem witness_ExchangeProgramStatus : (14 : Reg).val ≤ 14 ∧ (15 : Reg).val = 15 ∧ State.reset.prot = false := by decide

theorem witness_SupervisorCall : HalfReady State.reset 0 0x0094 ∧ FullReady State.reset 0 0x0096 ∧
    HalfReady State.reset 0 0x009A ∧ HalfReady State.reset 0 (0x009C + BitVec.ofNat 16 (2 * (15 : Reg).val)) :=
  ⟨ready_half rfl _ rfl, ready_full rfl _ rfl rfl, ready_half rfl _ rfl, ready_half rfl _ rfl⟩

theorem witness_StopsByName : State.reset.prot = false ∧ State.reset.platform.service = .notSpecified ∧ (0 : Reg) = 0 ∧
    (1 : Reg) ≠ 0 := by decide

/-- An odd address, and an even one without memory, for each kind of access. -/
theorem witness_OperandFaults :
    let u := machine 0 0 0x100 [] []
    let s := answering { u with platform := { u.platform with installed := [(0, 4)] } } [] reply
    s.prot = false ∧ (s.sum 0xFFFF 0).getLsbD 0 = true ∧ (s.sum 4 0).getLsbD 0 = false ∧ (0 : Reg).val % 2 = 0 ∧
      (answerTo s).timeout = false ∧ FprReady s 0 0 ∧ ¬ByteReady s s.obank (s.sum 4 0) ∧
      ¬HalfReady s s.obank (s.sum 4 0) ∧ ¬HalfReady s 3 (s.sum 4 0) ∧ ¬FullReady s s.obank (s.sum 2 0) ∧
      (¬∀ k < 16 - (14 : Reg).val, HalfReady s s.obank (s.sum 2 0 + BitVec.ofNat 16 (2 * k))) ∧
      ¬∀ k < 4, ByteReady s s.obank (s.sum 2 0 + BitVec.ofNat 16 k) := by
  simp only [FprReady, FullReady, HalfReady, ByteReady]
  decide

theorem witness_OperandFaults_step : (machine 0 0 0x101 [] []).active = .controller ∧
    (machine 0 0 0x101 [] []).deviceInterruptDue = false ∧ (machine 0 0 0x101 [] []).loc.getLsbD 0 = true := by decide

/-- A requesting device with and without a time-out, none, and an answer that names a device that requests nothing. -/
theorem witness_AcknowledgeAndSense :
    let s := fun (pending : List Byte) (timeout : Bool) =>
      answering (machine 0 0 0x100 [] []) pending { reply with device := 0x22, timeout := timeout }
    (s [0x22] false).prot = false ∧ ((1 : Reg) != 2) = true ∧
      ((answerTo (s [0x22] false)).timeout || (s [0x22] false).pending.isEmpty) = false ∧
      (answerTo (s [0x22] false)).device ∈ (s [0x22] false).pending ∧
      (answerTo (s [0x33] false)).device ∉ (s [0x33] false).pending ∧
      ((answerTo (s [0x22] true)).timeout || (s [0x22] true).pending.isEmpty) = true ∧
      ((answerTo (s [] false)).timeout || (s [] false).pending.isEmpty) = true ∧
      ByteReady (s [] false) (s [] false).obank ((s [] false).sum 0xFFFF 0) :=
  ⟨by decide, by decide, by decide, by decide, by decide, by decide, by decide, ready_byte rfl _ _⟩

theorem witness_DataReads : State.reset.prot = false ∧
    ByteReady State.reset State.reset.obank (State.reset.sum 0xFFFF 0) ∧
    HalfReady State.reset State.reset.obank (State.reset.sum 0xFFFE 0) :=
  ⟨by decide, ready_byte rfl _ _, ready_half rfl _ rfl⟩

theorem witness_CommandsAndDataWrites : State.reset.prot = false ∧
    ByteReady State.reset State.reset.obank (State.reset.sum 0xFFFF 0) ∧
    HalfReady State.reset State.reset.obank (State.reset.sum 0xFFFE 0) :=
  ⟨by decide, ready_byte rfl _ _, ready_half rfl _ rfl⟩

/-- Limits one byte apart in the wrong order, equal limits, and the whole bank, for the register form; a block of two
bytes for the storage form. -/
theorem witness_BlockReads :
    let s := machine 0 0 0x100 [(2, 0x0301), (3, 0x0300), (4, 0x0300), (5, 0x0000), (6, 0xFFFF)]
      [(0, 0x0200, 0x0300), (0, 0x0202, 0x0301)]
    s.prot = false ∧ (14 : Reg).val ≤ 14 ∧ (s.reg 3).toNat + 1 - (s.reg 2).toNat = 0 ∧
      0 < (s.reg 4).toNat + 1 - (s.reg 3).toNat ∧ 0 < (s.reg 6).toNat + 1 - (s.reg 5).toNat ∧
      (∀ k, ByteReady s s.obank (s.reg 5 + BitVec.ofNat 16 k)) ∧ HalfReady s s.obank (s.sum 0x0200 0) ∧
      HalfReady s s.obank (s.sum 0x0200 0 + 2) ∧
      0 < (s.halfAt s.obank (s.sum 0x0200 0 + 2)).toNat + 1 - (s.halfAt s.obank (s.sum 0x0200 0)).toNat :=
  ⟨by decide, by decide, by decide, by decide, by decide, fun _ => ready_byte rfl _ _, ready_half rfl _ rfl,
    ready_half rfl _ rfl, by decide⟩

/-- The same limits as for the block reads. -/
theorem witness_BlockWrites :
    let s := machine 0 0 0x100 [(2, 0x0301), (3, 0x0300), (4, 0x0300), (5, 0x0000), (6, 0xFFFF)]
      [(0, 0x0200, 0x0300), (0, 0x0202, 0x02FF)]
    s.prot = false ∧ (14 : Reg).val ≤ 14 ∧ (s.reg 3).toNat + 1 - (s.reg 2).toNat = 0 ∧
      0 < (s.reg 4).toNat + 1 - (s.reg 3).toNat ∧ 0 < (s.reg 6).toNat + 1 - (s.reg 5).toNat ∧
      (∀ k, ByteReady s s.obank (s.reg 5 + BitVec.ofNat 16 k)) ∧ HalfReady s s.obank (s.sum 0x0200 0) ∧
      HalfReady s s.obank (s.sum 0x0200 0 + 2) ∧
      (s.halfAt s.obank (s.sum 0x0200 0 + 2)).toNat + 1 - (s.halfAt s.obank (s.sum 0x0200 0)).toNat = 0 :=
  ⟨by decide, by decide, by decide, by decide, by decide, fun _ => ready_byte rfl _ _, ready_half rfl _ rfl,
    ready_half rfl _ rfl, by decide⟩

theorem witness_Autoload : State.reset.prot = false ∧ (1 : Reg) ≠ 0 ∧ (0 : Reg) = 0 ∧ ByteReady State.reset 0 0x0078 ∧
    ByteReady State.reset 0 0x0079 ∧ ∀ k, ByteReady State.reset 0 (0x80 + BitVec.ofNat 16 k) :=
  ⟨by decide, by decide, rfl, ready_byte rfl _ _, ready_byte rfl _ _, fun _ => ready_byte rfl _ _⟩

/-- A list without slots is full and empty at once; a list of 255 slots whose top wraps; a list in which the tally is
above the number of slots. -/
theorem witness_ListAdds :
    let s := machine 0 0 0x100 [] [(0, 0x0200, 0x0000), (0, 0x0300, 0xFFFE), (0, 0x0302, 0x00FE), (0, 0x0400, 0x0102)]
    ListReady s (s.sum 0x0200 0) ∧ (listHead s (s.sum 0x0200 0)).used = (listHead s (s.sum 0x0200 0)).slots ∧
      ListReady s (s.sum 0x0300 0) ∧ (listHead s (s.sum 0x0300 0)).used ≠ (listHead s (s.sum 0x0300 0)).slots ∧
      HalfReady s s.obank (slotAt (s.sum 0x0300 0) (ringDown (listHead s (s.sum 0x0300 0)).slots
        (listHead s (s.sum 0x0300 0)).top)) ∧
      HalfReady s s.obank (slotAt (s.sum 0x0300 0) (listHead s (s.sum 0x0300 0)).bottom) ∧
      (s.sum 0x0201 0).getLsbD 0 = true ∧ (s.sum 0x0400 0).getLsbD 0 = false ∧
      (∀ k < 4, ByteReady s s.obank (s.sum 0x0400 0 + BitVec.ofNat 16 k)) ∧
      (listHead s (s.sum 0x0400 0)).consistent = false :=
  ⟨⟨by decide, fun _ _ => ready_byte rfl _ _, by decide⟩, by decide, ⟨by decide, fun _ _ => ready_byte rfl _ _, by decide⟩,
    by decide, ready_half rfl _ (by decide), ready_half rfl _ (by decide), by decide, by decide,
    fun _ _ => ready_byte rfl _ _, by decide⟩

/-- An empty list; a full list of one slot; a list whose bottom wraps. -/
theorem witness_ListRemoves :
    let s := machine 0 0 0x100 [] [(0, 0x0200, 0xFF00), (0, 0x0300, 0x0101), (0, 0x0302, 0x0000)]
    ListReady s (s.sum 0x0200 0) ∧ (listHead s (s.sum 0x0200 0)).used = 0 ∧ ListReady s (s.sum 0x0300 0) ∧
      (listHead s (s.sum 0x0300 0)).used ≠ 0 ∧
      HalfReady s s.obank (slotAt (s.sum 0x0300 0) (listHead s (s.sum 0x0300 0)).top) ∧
      HalfReady s s.obank (slotAt (s.sum 0x0300 0) (ringDown (listHead s (s.sum 0x0300 0)).slots
        (listHead s (s.sum 0x0300 0)).bottom)) :=
  ⟨⟨by decide, fun _ _ => ready_byte rfl _ _, by decide⟩, by decide, ⟨by decide, fun _ _ => ready_byte rfl _ _, by decide⟩,
    by decide, ready_half rfl _ (by decide), ready_half rfl _ (by decide)⟩

/-- The annex machine with the word `w` at the location that its next instruction specifies, and `v` after it. -/
def located (c : Central) (w v : CWord) : State :=
  let a := Config.centralLocation State.reset.draws 0 0
  { State.reset with central := (c.putWord (a + 1) v).putWord a w }

theorem located_word (c : Central) (w v : CWord) :
    (located c w v).central.word (Config.centralLocation (located c w v).draws 0 0) = w := word_putWord_self _ _ _

theorem located_next (c : Central) (w v : CWord) :
    (located c w v).central.word (Config.centralLocation (located c w v).draws 0 0 + 1) = v := by
  show ((c.putWord (Config.centralLocation State.reset.draws 0 0 + 1) v).putWord
    (Config.centralLocation State.reset.draws 0 0) w).word (Config.centralLocation State.reset.draws 0 0 + 1) = v
  rw [word_putWord, if_neg (by simp), word_putWord, if_pos rfl]

/-- Above and below at the ends of the range, and +0 against -0. -/
theorem witness_CentralCompares :
    centralValue 0x3FFFF < centralValue 0x1FFFF ∧
      (located { Central.reset with acc := 0x1FFFF } 0x3FFFF 0).central.acc = 0x1FFFF ∧
      (located { Central.reset with acc := 0x3FFFF } 0x1FFFF 0).central.acc = 0x3FFFF ∧
      (located Central.reset 0x20000 0).central.acc = 0 ∧
      (located Central.reset 0x20000 0).central.word
        (Config.centralLocation (located Central.reset 0x20000 0).draws 0 0) = 0x20000 ∧
      (located { Central.reset with acc := 0x20000 } 0 0).central.acc = 0x20000 ∧
      (located { Central.reset with acc := 0x20000 } 0 0).central.word
        (Config.centralLocation (located { Central.reset with acc := 0x20000 } 0 0).draws 0 0) = 0 :=
  ⟨by decide, rfl, rfl, rfl, located_word _ _ _, rfl, located_word _ _ _⟩

/-- CML of equal words turns both indicators on. -/
theorem witness_CentralCompares_changes : ∃ t, exec (.cml 0 0) State.reset = .next t ∧
    t.central.compareHigh ≠ State.reset.central.compareHigh ∧ t.central.compareLow ≠ State.reset.central.compareLow :=
  ⟨_, rfl, by decide, by decide⟩

theorem witness_CentralLock :
    ({ Central.reset with dual := true, otherLock := 5 } : Central).dual = true ∧ (5 : BitVec 10) ≠ 4 ∧
      Central.reset.dual = false ∧ Central.reset.ignoreLockSwitch = true ∧
      ({ Central.reset with ignoreLockSwitch := false } : Central).ignoreLockSwitch = false := by decide

/-- The largest sum that fits, and a zero. -/
theorem witness_CentralAddSubtract :
    centralValue 0x1FFFE + centralValue 1 = 131071 ∧ centralValue 0x3FFFE - centralValue 1 = -131071 ∧
      centralValue 0x20000 + centralValue 0 = 0 ∧
      (located { Central.reset with acc := 0x1FFFE } 1 0).central.acc = 0x1FFFE ∧
      (located { Central.reset with acc := 0x1FFFE } 1 0).central.word
        (Config.centralLocation (located { Central.reset with acc := 0x1FFFE } 1 0).draws 0 0) = 1 :=
  ⟨by decide, by decide, by decide, rfl, located_word _ _ _⟩

/-- A divisor one above the accumulator, and one that equals it. -/
theorem witness_CentralMultiplyDivide : mag 0x20004 < mag 5 ∧ mag 4 ≤ mag 0x20004 ∧
    (located { Central.reset with acc := 0x20004 } 5 0).central.acc = 0x20004 ∧
    (located { Central.reset with acc := 0x20004 } 5 0).central.word
      (Config.centralLocation (located { Central.reset with acc := 0x20004 } 5 0).draws 0 0) = 5 ∧
    (located { Central.reset with acc := 0x20004 } 4 0).central.word
      (Config.centralLocation (located { Central.reset with acc := 0x20004 } 4 0).draws 0 0) = 4 :=
  ⟨by decide, by decide, rfl, located_word _ _ _, located_word _ _ _⟩

/-- Sums one below and at 2^34, a sum of zero; arguments of the square root of each sign, zero and nonzero, and the
largest one with a stated root. -/
theorem witness_CentralDoubleAndRoot :
    let c := { Central.reset with acc := 0x1FFFF, q := 0x1FFFF }
    (doubleValue c.acc c.q + doubleValue 0 0).natAbs = 2 ^ 34 - 1 ∧
      (doubleValue c.acc c.q + doubleValue 0 1).natAbs = 2 ^ 34 ∧ doubleValue 0x20000 0x20000 + doubleValue 0 0 = 0 ∧
      sgn 0 = sgn 1 ∧ sgn c.acc = sgn c.q ∧ (located c 1 0).central.acc = c.acc ∧ (located c 1 0).central.q = c.q ∧
      (located c 1 0).central.word (Config.centralLocation (located c 1 0).draws 0 0) = 1 ∧
      (located c 1 0).central.word (Config.centralLocation (located c 1 0).draws 0 0 + 1) = 0 ∧
      sgn 0x20000 = true ∧ doubleMag 0x20000 1 ≠ 0 ∧ doubleMag 0x20000 0 = 0 ∧ sgn 0 = false ∧
      doubleMag 0x1FFFF 0 = 131071 * 131071 + 131071 :=
  ⟨by decide, by decide, by decide, by decide, by decide, rfl, rfl, located_word _ _ _, located_next _ _ _, by decide,
    by decide, by decide, by decide, by decide⟩

theorem witness_CentralIndexOperations :
    let c := Central.reset.setIndex 12 0x1FF00
    (1 : BitVec 4).toNat = 1 ∧ (12 : BitVec 4).toNat ≤ 12 ∧ (c.indexValue 12).toNat + (255 : BitVec 8).toNat < 2 ^ 17 ∧
      (c.indexValue 12).toNat < 2 ^ 17 ∧ (255 : BitVec 8).toNat ≤ (c.indexValue 12).toNat ∧ c.indexValue 12 ≠ 0 ∧
      c.indexValue 1 = 0 := by decide

/-- The amounts of the indirect forms at their bounds, and an indirect word with R^1 a one at the location that each of
them reads. -/
theorem witness_CentralIndexOperations_indirect :
    let c := Central.reset.setIndex 1 0x1FFFE
    mag (c.indexValue 1) + mag 0x20001 < 2 ^ 17 ∧ sgn 0x20001 = true ∧ mag 0x21FFE ≤ mag (c.indexValue 1) ∧
      c.indexValue 1 ≠ 0 ∧ sgn 0x1FFFF = false ∧
      (∀ (n : Nat) (y : BitVec 9), ∃ s : State, s.draws = 0 ∧ s.central.indexValue 1 = c.indexValue 1 ∧
        s.central.word (Config.centralLocation (s.draws + n) 14 y) = 0x20001) :=
  ⟨by decide, by decide, by decide, by decide, by decide, fun n y =>
    ⟨{ State.reset with central :=
        (Central.reset.setIndex 1 0x1FFFE).putWord (Config.centralLocation (0 + n) 14 y) 0x20001 },
      rfl, rfl, word_putWord_self _ _ _⟩⟩

theorem witness_CentralShifts : 13 ≤ (13 : BitVec 4).toNat ∧ (12 : BitVec 4).toNat ≤ 12 := by decide

theorem witness_CentralPages : ({ Central.reset with acc := 131070, q := 131070 } : Central).acc.toNat < 131071 ∧
    ({ Central.reset with acc := 131070, q := 131070 } : Central).q.toNat < 131071 := by decide

theorem witness_CentralIndicators : Central.reset.dual = false ∧ (0 : Fin 10) ≠ 2 ∧ (0 : Fin 10) ≠ 6 ∧
    ({ Central.reset with dual := true } : Central).dual = true := by decide

theorem witness_CentralInputOutput : Central.reset.channelExists 7 = true ∧
    ({ Central.reset with lowChannels := false } : Central).channelExists 3 = false ∧ (255 : BitVec 9).toNat < 256 ∧
    Central.reset.consoleNotBusy = true ∧ ({ Central.reset with consoleNotBusy := false } : Central).consoleNotBusy = false := by
  decide

end Sys2Proof.Tests
end

section
/-! Accesses that stop (20_memory.md R64 to R66, R71): what the shared operations answer at an odd address and where no
memory is installed, and from that the operand faults of the instructions. -/

namespace Sys2Proof.Proofs

open Sys2Proof.Machine Sys2Proof.Safety

section

variable {s t : State} {b : Bank} {e : Half} {r1 x2 : Reg} {P Q : Prop}

/-! Stopping and the checks around an access -/

theorem needs_congr {r : Result} (h : P ↔ Q) : Needs r e P ↔ Needs r e Q := by rw [h]

theorem privileged_needs {len : Half} {k : Result} (supervisor : s.prot = false) (h : Needs k e P) :
    Needs (privileged len s k) e P := by
  rwa [privileged_supervisor k supervisor]

theorem evenPair_needs {k : Result} (even : r1.val % 2 = 0) (h : Needs k e P) : Needs (evenPair r1 k) e P := by
  rwa [evenPair, if_pos even]

/-! Bytes -/

/-- A byte read followed by what finds no memory finds no memory, whether or not the byte itself does. -/
theorem attempt_readByte_noMemory {k : Byte → Result}
    (h : ByteReady s b e → k (s.byteAt b e) = .fault .noMemory) :
    attempt (s.readByte b e) k = .fault .noMemory := by
  by_cases ready : ByteReady s b e
  · rw [readByte_ready ready, attempt_ok, h ready]
  · have absent : s.present (addr18 b e) = false := by simpa [ByteReady] using ready
    simp [State.readByte, State.checkByte, absent, Except.map]

theorem attempt_readByte_absent (absent : ¬ByteReady s b e) (k : Byte → Result) :
    attempt (s.readByte b e) k = .fault .noMemory :=
  attempt_readByte_noMemory fun ready => absurd ready absent

/-- A byte write of an instruction that began in `s`, on the same platform. -/
theorem attempt_writeByte_absent {v : Byte} (same : t.platform = s.platform) (absent : ¬ByteReady s b e)
    (k : State → Result) : attempt (t.writeByte b e v) k = .fault .noMemory := by
  have missing : t.present (addr18 b e) = false := by
    simpa [ByteReady] using mt (byteReady_congr same b e).mp absent
  simp [State.writeByte, State.checkByte, missing, Except.map]

/-! Halfwords in sequence -/

theorem even_add_two (e : Half) : (e + 2).getLsbD 0 = e.getLsbD 0 := by
  simp [BitVec.getLsbD, Nat.testBit_zero]

/-- A halfword read at an even address followed by what finds no memory finds no memory. -/
theorem attempt_readHalf_noMemory {k : Half → Result} (even : e.getLsbD 0 = false)
    (h : HalfReady s b e → k (s.halfAt b e) = .fault .noMemory) :
    attempt (s.readHalf b e) k = .fault .noMemory := by
  by_cases ready : HalfReady s b e
  · rw [readHalf_ready ready, attempt_ok, h ready]
  · exact (readHalf_needs k).2 even ready

theorem withLimits_needs (k : Half → Half → Result) : Needs (withLimits e s k) e (FullReady s s.obank e) := by
  refine ⟨fun odd => (readHalf_needs _).1 odd, fun even absent => ?_⟩
  refine attempt_readHalf_noMemory even fun first => (readHalf_needs _).2 ((even_add_two e).trans even) fun second => ?_
  exact absent ⟨first, second⟩

/-- The halfwords from `e` on are the one at `e` and those from `e + 2` on. -/
theorem halvesReady_succ (n : Nat) :
    (∀ k < n + 1, HalfReady s b (e + BitVec.ofNat 16 (2 * k))) ↔
      HalfReady s b e ∧ ∀ k < n, HalfReady s b (e + 2 + BitVec.ofNat 16 (2 * k)) := by
  have next (k : Nat) : e + BitVec.ofNat 16 (2 * (k + 1)) = e + 2 + BitVec.ofNat 16 (2 * k) := by
    rw [Nat.mul_succ, Nat.add_comm, BitVec.ofNat_add, BitVec.add_assoc]; rfl
  rw [Nat.forall_lt_succ_left]
  simp [next]

theorem readHalves_odd (n : Nat) (odd : e.getLsbD 0 = true) : s.readHalves b e (n + 1) = .error .misaligned := by
  simp [State.readHalves, State.readHalf, checkHalf_odd odd, Except.map]

theorem readHalves_absent (n : Nat) (even : e.getLsbD 0 = false)
    (absent : ¬∀ k < n, HalfReady s b (e + BitVec.ofNat 16 (2 * k))) : s.readHalves b e n = .error .noMemory := by
  induction n generalizing e with
  | zero => exact absurd (fun k h => absurd h (Nat.not_lt_zero k)) absent
  | succ n ih =>
    rw [halvesReady_succ] at absent
    by_cases ready : HalfReady s b e
    · have rest := ih ((even_add_two e).trans even) fun all => absent ⟨ready, all⟩
      simp only [State.readHalves, readHalf_ready ready, rest, Except.map]
    · simp [State.readHalves, State.readHalf, checkHalf_fails.2 even ready, Except.map]

theorem writeHalves_odd (v : Half) (vs : List Half) (odd : e.getLsbD 0 = true) :
    s.writeHalves b e (v :: vs) = .error .misaligned := by
  simp [State.writeHalves, State.writeHalf, checkHalf_odd odd, Except.map]

theorem writeHalves_absent (vs : List Half) (even : e.getLsbD 0 = false)
    (absent : ¬∀ k < vs.length, HalfReady s b (e + BitVec.ofNat 16 (2 * k))) :
    s.writeHalves b e vs = .error .noMemory := by
  induction vs generalizing s e with
  | nil => exact absurd (fun k h => absurd h (Nat.not_lt_zero k)) absent
  | cons v vs ih =>
    rw [List.length_cons, halvesReady_succ] at absent
    by_cases ready : HalfReady s b e
    · have rest : (s.putHalf b e v).writeHalves b (e + 2) vs = .error .noMemory :=
        ih ((even_add_two e).trans even) fun all =>
          absent ⟨ready, fun k h => (halfReady_congr (State.putHalf_platform s b e v) _ _).mp (all k h)⟩
      simp only [State.writeHalves, writeHalf_ready v ready, rest]
    · simp [State.writeHalves, State.writeHalf, checkHalf_fails.2 even ready, Except.map]

theorem readHalves_needs {n : Nat} (pos : 0 < n) (k : List Half → Result) :
    Needs (attempt (s.readHalves b e n) k) e (∀ k < n, HalfReady s b (e + BitVec.ofNat 16 (2 * k))) := by
  obtain ⟨m, rfl⟩ := Nat.exists_eq_add_one.mpr pos
  exact ⟨fun odd => by rw [readHalves_odd m odd, attempt_error],
    fun even absent => by rw [readHalves_absent _ even absent, attempt_error]⟩

theorem writeHalves_needs {vs : List Half} (pos : 0 < vs.length) (k : State → Result) :
    Needs (attempt (s.writeHalves b e vs) k) e
      (∀ k < vs.length, HalfReady s b (e + BitVec.ofNat 16 (2 * k))) := by
  obtain ⟨v, rest, rfl⟩ := List.exists_cons_of_length_pos pos
  exact ⟨fun odd => by rw [writeHalves_odd v rest odd, attempt_error],
    fun even absent => by rw [writeHalves_absent _ even absent, attempt_error]⟩

@[simp] theorem regsFrom_length (s : State) (r1 : Reg) : (s.regsFrom r1).length = 16 - r1.val := by
  simp [State.regsFrom]

/-! Lists and floating-point registers -/

/-- An odd list address stops before a parameter byte is read, and a missing parameter byte before they are compared. -/
theorem withList_needs (k : ListHead → Result) :
    Needs (withList e s k) e (∀ k < 4, ByteReady s s.obank (e + BitVec.ofNat 16 k)) := by
  refine ⟨fun odd => by rw [withList, if_pos odd], fun even absent => ?_⟩
  rw [withList, if_neg (ne_true_of_eq_false even)]
  refine attempt_readByte_noMemory fun slots => attempt_readByte_noMemory fun used =>
    attempt_readByte_noMemory fun top => attempt_readByte_absent (fun bottom => absent fun k h => ?_) _
  match k, h with
  | 0, _ => simpa using slots
  | 1, _ => exact used
  | 2, _ => exact top
  | 3, _ => exact bottom

theorem withFpr_needs {a : BitVec 18} {k : BitVec 18 → Result} (ready : FprReady s r1 a) (h : Needs (k a) e P) :
    Needs (withFpr s r1 k) e P := by
  rwa [withFpr, ready.1]

theorem attempt_readFpr_ready {a : BitVec 18} (ready : FprReady s r1 a) (k : Full → Result) :
    attempt (s.readFpr a) k = k (fprWord s a) := by
  rw [State.readFpr, readFull_ready ready.2, attempt_ok, fprWord]

theorem fpStorage_needs {a : BitVec 18} (ready : FprReady s r1 a) (m : Half) (k : BitVec 18 → Full → Full → Result) :
    Needs (fpStorage r1 x2 m s k) (s.sum m x2) (FullReady s s.obank (s.sum m x2)) :=
  withFpr_needs ready (by rw [attempt_readFpr_ready ready]; exact readFull_needs _)

theorem ste_needs {a : BitVec 18} (ready : FprReady s r1 a) (m : Half) :
    Needs (exec (.ste r1 x2 m) s) (s.sum m x2) (FullReady s s.obank (s.sum m x2)) :=
  withFpr_needs ready (by rw [attempt_readFpr_ready ready]; exact writeFull_needs _)

/-! Devices -/

theorem ask_platform (s : State) (q : DeviceRequest) : (s.ask q).2.platform = s.platform := by rw [(ask_eq s q).2]

theorem askAck_platform (s : State) : s.askAck.2.platform = s.platform := ask_platform s .ack

theorem takeNumber_platform (s : State) (r1 : Reg) (a : DeviceAnswer) :
    (s.takeNumber r1 a).platform = s.platform := rfl

theorem exec_rh_supervisor (r1 x2 : Reg) (a2 : Half) (supervisor : s.prot = false) :
    exec (.rh r1 x2 a2) s =
      let asked := s.ask (.read16 (s.device r1))
      attempt (if asked.1.timeout then .ok asked.2 else asked.2.writeHalf s.obank (s.sum a2 x2) asked.1.half) fun u =>
        .next ((u.setTransferCC asked.1.timeout).advance 4) :=
  privileged_supervisor _ supervisor

theorem exec_rd_supervisor (r1 x2 : Reg) (a2 : Half) (supervisor : s.prot = false) :
    exec (.rd r1 x2 a2) s =
      let asked := s.ask (.read8 (s.device r1))
      attempt (if asked.1.timeout then .ok asked.2 else asked.2.writeByte s.obank (s.sum a2 x2) asked.1.byte) fun u =>
        .next ((u.setTransferCC asked.1.timeout).advance 4) :=
  privileged_supervisor _ supervisor

theorem exec_ss_supervisor (r1 x2 : Reg) (a2 : Half) (supervisor : s.prot = false) :
    exec (.ss r1 x2 a2) s =
      let asked := s.ask (.sense (s.device r1))
      attempt (asked.2.writeByte s.obank (s.sum a2 x2) (statusByte asked.1)) fun u =>
        .next ((u.setStatusCC (statusByte asked.1)).advance 4) :=
  privileged_supervisor _ supervisor

theorem exec_ai_supervisor (r1 x2 : Reg) (a2 : Half) (supervisor : s.prot = false) :
    exec (.ai r1 x2 a2) s =
      let asked := s.askAck
      attempt ((asked.2.takeNumber r1 asked.1).writeByte s.obank (s.sum a2 x2) (statusByte asked.1)) fun u =>
        .next (((u.setStatusCC (statusByte asked.1)).acknowledged asked.1).advance 4) :=
  privileged_supervisor _ supervisor

/-- RH accesses its operand unless the device times out (47_io_and_list.md R375). -/
theorem rh_needs (supervisor : s.prot = false) (answered : (answerTo s).timeout = false) (a2 : Half) :
    Needs (exec (.rh r1 x2 a2) s) (s.sum a2 x2) (HalfReady s s.obank (s.sum a2 x2)) := by
  simp only [exec_rh_supervisor r1 x2 a2 supervisor, (ask_eq s _).1, answered, Bool.false_eq_true, if_false]
  exact (needs_congr (halfReady_congr (ask_platform s _) _ _)).mp (writeHalf_needs _)

/-- RD accesses its operand unless the device times out (47_io_and_list.md R370). -/
theorem rd_absent (supervisor : s.prot = false) (answered : (answerTo s).timeout = false) {a2 : Half}
    (absent : ¬ByteReady s s.obank (s.sum a2 x2)) : exec (.rd r1 x2 a2) s = .fault .noMemory := by
  simp only [exec_rd_supervisor r1 x2 a2 supervisor, (ask_eq s _).1, answered, Bool.false_eq_true, if_false]
  exact attempt_writeByte_absent (ask_platform s _) absent _

/-! The location counter -/

theorem fetch_odd (odd : s.loc.getLsbD 0 = true) : s.fetch = .error .oddLocation := by
  simp [State.fetch, State.fetchBytes, odd, Except.map]

theorem step_odd_location (active : s.active = .controller) (noInterrupt : s.deviceInterruptDue = false)
    (odd : s.loc.getLsbD 0 = true) : step s = .fault .oddLocation := by
  simp [step, active, controllerStep, noInterrupt, fetch_odd odd]

end

/-! The instructions -/

/-- Settles O39: each instruction's operand access is one of the shared accesses above, made before anything changes. -/
theorem operandFaults : Obligations.OperandFaults := by
  unfold Obligations.OperandFaults
  refine ⟨fun s r1 x2 a2 supervisor => ?_, fun s => step_odd_location⟩
  have nonempty : 0 < 16 - r1.val := Nat.sub_pos_of_lt r1.isLt
  simp only [List.forall_mem_cons, List.not_mem_nil, false_implies, implies_true, and_true]
  refine ⟨?halfwords, ?evenPairs, fun answered => rh_needs supervisor answered a2, ?multiples, ?limits, ?psw,
    ?floats, ?lists, ?bytes⟩
  case halfwords =>
    exact ⟨readHalf_needs _, writeHalf_needs _, readHalf_needs _, readHalf_needs _, readHalf_needs _,
      readHalf_needs _, readHalf_needs _, readHalf_needs _, readHalf_needs _, readHalf_needs _,
      readHalf_needs _, readHalf_needs _, privileged_needs supervisor (readHalf_needs _), readHalf_needs _,
      readHalf_needs _, readHalf_needs _, readHalf_needs _, writeHalf_needs _, writeHalf_needs _,
      writeHalf_needs _, writeHalf_needs _⟩
  case evenPairs =>
    exact fun even => ⟨evenPair_needs even (readHalf_needs _), evenPair_needs even (readHalf_needs _),
      evenPair_needs even (readHalf_needs _)⟩
  case multiples =>
    refine ⟨readHalves_needs nonempty _, ?_⟩
    rw [← regsFrom_length s r1] at nonempty ⊢
    exact writeHalves_needs nonempty _
  case limits =>
    exact ⟨privileged_needs supervisor (withLimits_needs _), privileged_needs supervisor (withLimits_needs _)⟩
  case psw => exact privileged_needs supervisor (readFull_needs _)
  case floats =>
    exact fun a ready => ⟨withFpr_needs ready (readFull_needs _), ste_needs ready a2, fpStorage_needs ready a2 _,
      fpStorage_needs ready a2 _, fpStorage_needs ready a2 _, fpStorage_needs ready a2 _, fpStorage_needs ready a2 _⟩
  case lists =>
    change Needs (execAtl r1 x2 a2 s) _ _ ∧ Needs (execAbl r1 x2 a2 s) _ _ ∧ Needs (execRtl r1 x2 a2 s) _ _ ∧
      Needs (execRbl r1 x2 a2 s) _ _
    unfold execAtl execAbl execRtl execRbl
    exact ⟨withList_needs _, withList_needs _, withList_needs _, withList_needs _⟩
  case bytes =>
    intro absent
    refine ⟨⟨attempt_readByte_absent absent _, attempt_writeByte_absent rfl absent _, attempt_readByte_absent absent _,
      ?ai, ?ss, ?oc, ?wd⟩, fun answered => rd_absent supervisor answered absent⟩
    case ai =>
      rw [exec_ai_supervisor r1 x2 a2 supervisor]
      exact attempt_writeByte_absent ((takeNumber_platform _ _ _).trans (askAck_platform s)) absent _
    case ss =>
      rw [exec_ss_supervisor r1 x2 a2 supervisor]
      exact attempt_writeByte_absent (ask_platform s _) absent _
    case oc => exact (privileged_supervisor _ supervisor).trans (attempt_readByte_absent absent _)
    case wd => exact (privileged_supervisor _ supervisor).trans (attempt_readByte_absent absent _)

end Sys2Proof.Proofs
end

section
/-! The decoder and the encoder (30_encoding.md R100 to R113, 49_annex_central_computer.md R453, R456): what each looks
up and takes apart, and that they are inverse to each other. -/

namespace Sys2Proof.Proofs

open Sys2Proof.Machine

/-! Fields of the HMP-1116 -/

@[simp] theorem regOf_field (r : Reg) : regOf (field r) = r := by
  apply Fin.ext
  simp [regOf, field, Fin.ofNat, Nat.mod_eq_of_lt r.isLt]

@[simp] theorem highNibble_append (a b : BitVec 4) : (a ++ b : Byte).extractLsb' 4 4 = a :=
  BitVec.extractLsb'_append_eq_left

@[simp] theorem lowNibble_append (a b : BitVec 4) : (a ++ b : Byte).extractLsb' 0 4 = b :=
  BitVec.extractLsb'_append_eq_right

/-! The table of operation codes -/

theorem findForm_eq_none_iff (op : Byte) (rows : List (Byte × Form)) :
    findForm op rows = none ↔ op ∉ rows.map (·.1) := by
  induction rows with
  | nil => simp [findForm]
  | cons row rows ih =>
    by_cases here : row.1 = op
    · simp [findForm, here]
    · simp [findForm, here, ih, Ne.symm here]

theorem mem_of_findForm {op : Byte} {f : Form} {rows : List (Byte × Form)} (found : findForm op rows = some f) :
    (op, f) ∈ rows := by
  induction rows with
  | nil => cases found
  | cons row rows ih =>
    by_cases here : row.1 = op
    · simp only [findForm, here, if_true, Option.some.injEq] at found
      simp [← here, ← found]
    · simp only [findForm, here, if_false] at found
      exact List.mem_cons_of_mem _ (ih found)

theorem findForm_of_mem {op : Byte} {f : Form} {rows : List (Byte × Form)} (distinct : (rows.map (·.1)).Nodup)
    (row : (op, f) ∈ rows) : findForm op rows = some f := by
  induction rows with
  | nil => cases row
  | cons first rows ih =>
    obtain ⟨fresh, distinct⟩ := List.nodup_cons.mp distinct
    rcases List.mem_cons.mp row with rfl | later
    · simp [findForm]
    · have other : first.1 ≠ op := fun same => fresh (List.mem_map.mpr ⟨_, later, same.symm⟩)
      simp [findForm, other, ih distinct later]

theorem operationCodes_nodup : (operationCodes.map (·.1)).Nodup := by decide +kernel

/-- A code is looked up in the list of its own part of the spec. -/
theorem findForm_of_table {op : Byte} {f : Form} (table : List (Byte × Form)) (found : findForm op table = some f)
    (part : ∀ row ∈ table, row ∈ operationCodes := by intro; simp +contextual [operationCodes]) :
    findForm op operationCodes = some f :=
  findForm_of_mem operationCodes_nodup (part _ (mem_of_findForm found))

/-- X'3A' is in no list of the spec, so reading it as AER hides no assigned code (30_encoding.md R113). -/
theorem formOf_of_findForm {op : Byte} {f : Form} (alias3A : Bool) (found : findForm op operationCodes = some f) :
    formOf alias3A op = some f := by
  have free : findForm 0x3A operationCodes = none := (findForm_eq_none_iff _ _).mpr (by decide)
  have other : op ≠ 0x3A := fun same => by rw [same, free] at found; cases found
  rw [formOf, if_neg (by simpa using fun _ => other), found]

/-- Every format the decoder finds is one of the table's: where X'3A' is read as AER, it is AER's own. -/
theorem mem_of_formOf {alias3A : Bool} {op : Byte} {f : Form} (found : formOf alias3A op = some f) :
    ∃ code, (code, f) ∈ operationCodes := by
  unfold formOf at found
  split at found
  · cases found
    exact ⟨0x2A, mem_of_findForm rfl⟩
  · exact ⟨op, mem_of_findForm found⟩

/-! Decoding an encoded instruction of the HMP-1116 -/

section

variable {op : Byte} (alias3A : Bool)

theorem decodeCode_short {f : Form} (found : findForm op operationCodes = some f) (is16 : f.long = false)
    (a b : BitVec 4) : decodeCode alias3A (short op a b) = .ok (f.instr a b 0) := by
  simp [decodeCode, short, decode, formOf_of_findForm alias3A found, is16]

theorem decodeCode_long {f : Form} (found : findForm op operationCodes = some f) (is32 : f.long = true)
    (a b : BitVec 4) (h : Half) : decodeCode alias3A (long op a b h) = .ok (f.instr a b h) := by
  simp [decodeCode, long, decode, formOf_of_findForm alias3A found, is32, half_split]

theorem decodeCode_rr {f : Reg → Reg → Instr} (found : findForm op operationCodes = some (.rr f)) (r1 r2 : Reg) :
    decodeCode alias3A (short op (field r1) (field r2)) = .ok (f r1 r2) := by
  simpa [Form.instr] using decodeCode_short alias3A found rfl (field r1) (field r2)

theorem decodeCode_sf {f : Reg → BitVec 4 → Instr} (found : findForm op operationCodes = some (.sf f)) (r1 : Reg)
    (n : BitVec 4) : decodeCode alias3A (short op (field r1) n) = .ok (f r1 n) := by
  simpa [Form.instr] using decodeCode_short alias3A found rfl (field r1) n

theorem decodeCode_ms {f : BitVec 4 → BitVec 4 → Instr} (found : findForm op operationCodes = some (.ms f))
    (m1 n : BitVec 4) : decodeCode alias3A (short op m1 n) = .ok (f m1 n) :=
  decodeCode_short alias3A found rfl m1 n

theorem decodeCode_mr {f : BitVec 4 → Reg → Instr} (found : findForm op operationCodes = some (.mr f))
    (m1 : BitVec 4) (r2 : Reg) : decodeCode alias3A (short op m1 (field r2)) = .ok (f m1 r2) := by
  simpa [Form.instr] using decodeCode_short alias3A found rfl m1 (field r2)

theorem decodeCode_rx {f : Reg → Reg → Half → Instr} (found : findForm op operationCodes = some (.rx f))
    (r1 x2 : Reg) (h : Half) : decodeCode alias3A (long op (field r1) (field x2) h) = .ok (f r1 x2 h) := by
  simpa [Form.instr] using decodeCode_long alias3A found rfl (field r1) (field x2) h

theorem decodeCode_mx {f : BitVec 4 → Reg → Half → Instr} (found : findForm op operationCodes = some (.mx f))
    (m1 : BitVec 4) (x2 : Reg) (h : Half) : decodeCode alias3A (long op m1 (field x2) h) = .ok (f m1 x2 h) := by
  simpa [Form.instr] using decodeCode_long alias3A found rfl m1 (field x2) h

end

/-! Fields of a Central Computer word (49_annex_central_computer.md R453) -/

section

variable (op : BitVec 5) (r : BitVec 4) (y : BitVec 9)

theorem central8_eq (x : Bool) (y : BitVec 8) : central8 op r x y = central9 op r (BitVec.ofBool x ++ y) :=
  BitVec.append_assoc

theorem central6_eq (x : BitVec 3) (k : BitVec 6) : central6 op r x k = central9 op r (x ++ k) :=
  BitVec.append_assoc

@[simp] theorem central9_op : (central9 op r y).extractLsb' 13 5 = op :=
  (BitVec.extractLsb'_append_eq_of_le (by decide)).trans BitVec.extractLsb'_append_eq_left

@[simp] theorem central9_r : (central9 op r y).extractLsb' 9 4 = r :=
  (BitVec.extractLsb'_append_eq_of_le (by decide)).trans BitVec.extractLsb'_append_eq_right

@[simp] theorem central9_y : (central9 op r y).extractLsb' 0 9 = y := BitVec.extractLsb'_append_eq_right

/-- The X and shift count fields lie in Y. -/
@[simp] theorem central9_low (start len : Nat) (low : start + len ≤ 9) :
    (central9 op r y).extractLsb' start len = y.extractLsb' start len :=
  BitVec.extractLsb'_append_eq_of_add_le low

/-- The channel lies in R. -/
@[simp] theorem central9_channel : (central9 op r y).extractLsb' 10 3 = r.extractLsb' 1 3 :=
  (BitVec.extractLsb'_append_eq_of_le (by decide)).trans (BitVec.extractLsb'_append_eq_of_add_le (by decide))

@[simp] theorem central9_bit8 : (central9 op r y)[8] = y[8] := BitVec.getElem_append ..

/-- The last bit of R. -/
@[simp] theorem central9_bit9 : (central9 op r y)[9] = r[0] :=
  (BitVec.getElem_append ..).trans (BitVec.getElem_append ..)

@[simp] theorem xBit_append (x : BitVec 1) (y : BitVec 8) : (x ++ y : BitVec 9)[8] = x[0] := BitVec.getElem_append ..

@[simp] theorem indexDisplacement_append (x : BitVec 1) (y : BitVec 8) : (x ++ y : BitVec 9).extractLsb' 0 8 = y :=
  BitVec.extractLsb'_append_eq_right

@[simp] theorem subOperation_append (x : BitVec 3) (k : BitVec 6) : (x ++ k : BitVec 9).extractLsb' 6 3 = x :=
  BitVec.extractLsb'_append_eq_left

@[simp] theorem shiftCount_append (x : BitVec 3) (k : BitVec 6) : (x ++ k : BitVec 9).extractLsb' 0 6 = k :=
  BitVec.extractLsb'_append_eq_right

@[simp] theorem channel_append (ch : BitVec 3) (b : BitVec 1) : (ch ++ b : BitVec 4).extractLsb' 1 3 = ch :=
  BitVec.extractLsb'_append_eq_left

@[simp] theorem lastBit_append (ch : BitVec 3) (b : BitVec 1) : (ch ++ b : BitVec 4)[0] = b[0] :=
  BitVec.getElem_append ..

/-- The ten indicator bits are the R and the shift count fields together. -/
@[simp] theorem indicators_split (n : BitVec 10) : (n.extractLsb' 6 4 ++ n.extractLsb' 0 6 : BitVec 10) = n :=
  (BitVec.extractLsb'_append_extractLsb'_eq_extractLsb' rfl).trans BitVec.extractLsb'_eq_self

end

theorem decodeCode_word (alias3A : Bool) {w : CWord} {i : Instr} (decoded : decodeCentral w = some i) :
    decodeCode alias3A (.word w) = .ok i := by
  simp [decodeCode, decoded]

/-- Decoding undoes encoding: each instruction of the HMP-1116 is found in the list of its part of the spec, and each of
the annex is told by its operation code and, where that is shared, by the X field. -/
theorem decodeCode_encode (alias3A : Bool) (i : Instr) : decodeCode alias3A (encode i) = .ok i := by
  cases i
  case lhr => exact decodeCode_rr alias3A (findForm_of_table loadStoreCodes rfl) _ _
  case lis | lcs => exact decodeCode_sf alias3A (findForm_of_table loadStoreCodes rfl) _ _
  case sth | lh | lh0 | lh1 | lh2 | lh3 | lhi | stm | lm | sth0 | sth1 | sth2 | sth3 =>
    exact decodeCode_rx alias3A (findForm_of_table loadStoreCodes rfl) _ _ _
  case ahr | shr | mhr | dhr | achr | schr | mhur =>
    exact decodeCode_rr alias3A (findForm_of_table arithmeticCodes rfl) _ _
  case ais | sis => exact decodeCode_sf alias3A (findForm_of_table arithmeticCodes rfl) _ _
  case ah | sh | mh | dh | ach | sch | ahm | ahi | shi | mhu =>
    exact decodeCode_rx alias3A (findForm_of_table arithmeticCodes rfl) _ _ _
  case nhr | clhr | ohr | xhr | chr | stbr | lbr | exbr =>
    exact decodeCode_rr alias3A (findForm_of_table logicalCodes rfl) _ _
  case nh | clh | oh | xh | ch | thi | nhi | clhi | ohi | xhi | chi | stb | lb | clb =>
    exact decodeCode_rx alias3A (findForm_of_table logicalCodes rfl) _ _ _
  case srls | slls => exact decodeCode_sf alias3A (findForm_of_table shiftCodes rfl) _ _
  case srhl | slhl | srha | slha | rrl | rll | srl | sll | sra | sla =>
    exact decodeCode_rx alias3A (findForm_of_table shiftCodes rfl) _ _ _
  case balr => exact decodeCode_rr alias3A (findForm_of_table branchCodes rfl) _ _
  case btcr | bfcr => exact decodeCode_mr alias3A (findForm_of_table branchCodes rfl) _ _
  case btbs | btfs | bfbs | bffs => exact decodeCode_ms alias3A (findForm_of_table branchCodes rfl) _ _
  case bal | bxh | bxle => exact decodeCode_rx alias3A (findForm_of_table branchCodes rfl) _ _ _
  case btc | bfc => exact decodeCode_mx alias3A (findForm_of_table branchCodes rfl) _ _ _
  case ler | cer | aer | ser | mer | der => exact decodeCode_rr alias3A (findForm_of_table floatingPointCodes rfl) _ _
  case ste | le | ce | ae | se | me | de =>
    exact decodeCode_rx alias3A (findForm_of_table floatingPointCodes rfl) _ _ _
  case epor | eppr | epsr => exact decodeCode_rr alias3A (findForm_of_table systemControlCodes rfl) _ _
  case lpsw | svc | sint => exact decodeCode_rx alias3A (findForm_of_table systemControlCodes rfl) _ _ _
  case atl | abl | rtl | rbl | al | wb | rb | wh | rh | wd | rd | ss | oc | ai =>
    exact decodeCode_rx alias3A (findForm_of_table inputOutputCodes rfl) _ _ _
  case wbr | rbr | whr | rhr | wdr | rdr | ssr | ocr | air =>
    exact decodeCode_rr alias3A (findForm_of_table inputOutputCodes rfl) _ _
  case lcnhr | lavr | lchr | cldpr | ldpr | cdpr | adpr | sdpr | mdpr | ddpr =>
    exact decodeCode_rr alias3A (findForm_of_table listedOnlyCodes rfl) _ _
  case stdp | lcnh | lav | lch | cldp | ldp | cdp | adp | sdp | mdp | ddp | resb | sesb | srql | slql | srqa | slqa =>
    exact decodeCode_rx alias3A (findForm_of_table listedOnlyCodes rfl) _ _ _
  case tru | trn | trz | tof | tsx | cma | cml | tre | trh | trl | lck | ulk | add | sub | mly | div | dpa | sqr |
      cla | str | ldq | stq | inx | dcx | trx | sxh | lga | lgm | lgc | cgc | lsa | lsb | rsa | rsb | rra | rrq |
      lrb | rrb | sap | csa | xca | cpa | lpr | rpr | lbi | rbi | sei | rei | ski | pia | pai | skw | exf | twa |
      twf | otw | ipc | cta | cts | ctr | pmo | pmf | opa | opb =>
    exact decodeCode_word alias3A (by simp [decodeCentral, central8_eq, central6_eq])

/-- Settles O3: the fields of R114 that are not well formed decode back as well, so the hypothesis is not used. -/
theorem decodeOfEncode : Obligations.DecodeOfEncode := by
  unfold Obligations.DecodeOfEncode
  exact fun alias3A i _ => decodeCode_encode alias3A i

/-! Bytes that decode, and bytes that do not -/

/-- Row by row, both sides evaluate to the same length whatever the fields hold. -/
theorem encode_row_length : ∀ row ∈ operationCodes, ∀ (a b : BitVec 4) (h : Half),
    ∃ l, encode (row.2.instr a b h) = .bytes l ∧ l.length = if row.2.long then 4 else 2 := by
  simp only [operationCodes, loadStoreCodes, arithmeticCodes, logicalCodes, shiftCodes, branchCodes, floatingPointCodes,
    systemControlCodes, inputOutputCodes, listedOnlyCodes, List.forall_mem_append, List.forall_mem_cons,
    List.not_mem_nil, false_implies, implies_true, and_true]
  and_intros
  all_goals exact fun a b h => ⟨_, rfl, rfl⟩

/-- A format the decoder finds reads as many bytes as the encoder gives its instructions. -/
theorem encode_instr_length {alias3A : Bool} {op : Byte} {f : Form} (found : formOf alias3A op = some f)
    (a b : BitVec 4) (h : Half) : ∃ l, encode (f.instr a b h) = .bytes l ∧ l.length = if f.long then 4 else 2 := by
  obtain ⟨code, row⟩ := mem_of_formOf found
  exact encode_row_length _ row a b h

theorem decode_of_none {alias3A : Bool} {op : Byte} (free : formOf alias3A op = none) (b : Byte) (rest : List Byte) :
    decode alias3A (op :: b :: rest) = .error (.unassigned op) := by simp [decode, free]

/-- Four bytes that decode hold the instruction of an assigned code's format. -/
theorem instr_of_decode {alias3A : Bool} {op b high low : Byte} {i : Instr}
    (decoded : decode alias3A [op, b, high, low] = .ok i) :
    ∃ f h, formOf alias3A op = some f ∧ i = f.instr (b.extractLsb' 4 4) (b.extractLsb' 0 4) h := by
  cases found : formOf alias3A op with
  | none => simp [decode, found] at decoded
  | some f =>
    cases is32 : f.long <;> simp only [decode, found, is32, if_true, Bool.false_eq_true, if_false] at decoded <;>
      exact ⟨f, _, rfl, (Except.ok.inj decoded).symm⟩

/-- A 16-bit format reads no byte behind its two. -/
theorem decode_short_append {alias3A : Bool} {op : Byte} {f : Form} (found : formOf alias3A op = some f)
    (is16 : f.long = false) (b : Byte) (rest : List Byte) :
    decode alias3A (op :: b :: rest) = decode alias3A [op, b] := by simp [decode, found, is16]

/-- Settles O4: a code that stands in no row of the table has no format, so that decoding names it. (Without
its last word the theorem's name would hide the table `Sys2Proof.operationCodes` in this namespace.) -/
theorem operationCodesObligation : Obligations.OperationCodes := by
  unfold Obligations.OperationCodes
  refine ⟨operationCodes_nodup, by decide +kernel, by decide +kernel, fun op b rest unassigned => ?_⟩
  have free : formOf false op = none := (findForm_eq_none_iff op _).mpr unassigned
  exact decode_of_none free b rest

/-- Settles O5: the decoder evaluated on each word. -/
theorem wordsDecode : Obligations.WordsDecode := by
  unfold Obligations.WordsDecode
  refine ⟨?_, ?_, ?_, ?_, ?_, ?_⟩ <;> decide

theorem central6_op (op : BitVec 5) (r : BitVec 4) (x : BitVec 3) (k : BitVec 6) :
    (central6 op r x k).extractLsb' 13 5 = op := (congrArg _ (central6_eq ..)).trans (central9_op ..)

theorem central6_x (op : BitVec 5) (r : BitVec 4) (x : BitVec 3) (k : BitVec 6) :
    (central6 op r x k).extractLsb' 6 3 = x := by simp [central6_eq]

/-- The unassigned sub-operations of the annex: the operation codes that X does not select from are all assigned. -/
theorem decodeCentral_eq_none_iff (op : BitVec 5) (r : BitVec 4) (x : BitVec 3) (k : BitVec 6) :
    decodeCentral (central6 op r x k) = none ↔
      (op = 0o15 ∧ x = 0) ∨ (op = 0o16 ∧ 4 ≤ x.toNat) ∨ (op = 0o37 ∧ x = 7) := by
  simp only [decodeCentral, central6_op, central6_x, ← BitVec.toNat_inj, BitVec.reduceToNat]
  have opLt := op.isLt
  have xLt := x.isLt
  split
  -- 0o14, 0o15, 0o16, 0o36 and 0o37, where X selects
  case h_13 | h_14 | h_15 | h_31 | h_32 => split <;> grind
  all_goals simp only [reduceCtorEq, false_iff]; omega

end Sys2Proof.Proofs
end

section
/-! One step (30_encoding.md R104, 60_exceptions.md R542, R545): what is fetched, that the decoded instruction runs, and
what an operation code or a sub-operation without a meaning does. -/

namespace Sys2Proof.Proofs

open Sys2Proof.Machine Sys2Proof.Safety

section

variable {s t : State} {k : Interrupt}

/-! The fetch -/

theorem add_two_add_one (e : Half) : e + 2 + 1 = e + 3 := by rw [BitVec.add_assoc]; rfl

@[simp] theorem halfAt_high (s : State) (b : Bank) (e : Half) : (s.halfAt b e).extractLsb' 8 8 = s.byteAt b e :=
  BitVec.extractLsb'_append_eq_left

@[simp] theorem halfAt_low (s : State) (b : Bank) (e : Half) : (s.halfAt b e).extractLsb' 0 8 = s.byteAt b (e + 1) :=
  BitVec.extractLsb'_append_eq_right

theorem fetch_unassigned (first : HalfReady s s.pbank s.loc)
    (free : formOf s.platform.aerAlias3A (s.byteAt s.pbank s.loc) = none) :
    s.fetch = .ok (.error (.unassigned (s.byteAt s.pbank s.loc))) := by
  simp only [State.fetch, State.fetchBytes, first.1, Bool.false_eq_true, if_false, readHalf_ready first,
    halfAt_high, halfAt_low, free, Except.map, decode_of_none free]

/-- The fetch reads the second halfword for a 32-bit format only, and decodes what the four bytes decode to. -/
theorem fetch_assigned {f : Form} (first : HalfReady s s.pbank s.loc)
    (found : formOf s.platform.aerAlias3A (s.byteAt s.pbank s.loc) = some f)
    (second : f.long = true → HalfReady s s.pbank (s.loc + 2)) :
    s.fetch = .ok (decode s.platform.aerAlias3A
      [s.byteAt s.pbank s.loc, s.byteAt s.pbank (s.loc + 1), s.byteAt s.pbank (s.loc + 2),
        s.byteAt s.pbank (s.loc + 3)]) := by
  cases is32 : f.long with
  | false =>
    simp only [State.fetch, State.fetchBytes, first.1, Bool.false_eq_true, if_false, readHalf_ready first,
      halfAt_high, halfAt_low, found, is32, Except.map, decode_short_append found is32 _ [_, _]]
  | true =>
    simp only [State.fetch, State.fetchBytes, first.1, Bool.false_eq_true, if_false, readHalf_ready first,
      halfAt_high, halfAt_low, found, is32, if_true, readHalf_ready (second is32), add_two_add_one, Except.map,
      List.cons_append, List.nil_append]

/-! The step -/

theorem step_fetched {i : Instr} (active : s.active = .controller) (noInterrupt : s.deviceInterruptDue = false)
    (fetched : s.fetch = .ok (.ok i)) : step s = exec i s := by
  simp [step, active, controllerStep, noInterrupt, fetched]

theorem step_unassigned {e : DecodeError} (active : s.active = .controller)
    (noInterrupt : s.deviceInterruptDue = false) (fetched : s.fetch = .ok (.error e)) :
    step s = raiseUnassigned s := by
  simp [step, active, controllerStep, noInterrupt, fetched]

theorem step_central_fetched {i : Instr} (active : s.active = .central)
    (decoded : decodeCentral (s.central.word s.central.pc) = some i) : step s = exec i s := by
  simp [step, active, centralStep, State.centralFetch, decoded]

theorem step_central_unassigned (active : s.active = .central)
    (unassigned : decodeCentral (s.central.word s.central.pc) = none) : step s = centralIllegal s := by
  simp [step, active, centralStep, State.centralFetch, unassigned]

/-! The Program Status Word exchange -/

@[simp] theorem psw_setPsw (s : State) (w : Full) : (s.setPsw w).psw = w := by
  have split (h : Half) : h.extractLsb' 4 12 ++ h.extractLsb' 0 4 = h :=
    (BitVec.extractLsb'_append_extractLsb'_eq_extractLsb' rfl).trans BitVec.extractLsb'_eq_self
  simp [State.psw, State.ps, split, full_split]

theorem byteAt_putFull_of_notMem (s : State) {b c : Bank} {e f : Half} (v : Full)
    (outside : (c, f) ∉ fullBytes b e) : (s.putFull b e v).byteAt c f = s.byteAt c f := by
  have elsewhere {d : Half} (inside : (b, d) ∈ fullBytes b e) : ¬(b = c ∧ d = f) := by
    rintro ⟨rfl, rfl⟩
    exact outside inside
  rw [State.putFull, byteAt_putHalf, byteAt_putHalf, add_two_add_one, if_neg (elsewhere (by simp [fullBytes])),
    if_neg (elsewhere (by simp [fullBytes])), if_neg (elsewhere (by simp [fullBytes])),
    if_neg (elsewhere (by simp [fullBytes]))]

/-- An exchange whose two locations find memory is taken and changes nothing else. -/
theorem exchangePsw_exchanges {old new : Half} (saved : Half) (oldReady : FullReady s 0 old)
    (newReady : FullReady s 0 new) :
    ∃ t, exchangePsw old new saved s = .next t ∧ ExchangesAt s t old new saved := by
  have taken := exchangePsw_ready saved oldReady newReady
  refine ⟨_, taken, ?old, ?psw, ?frame, ?devices⟩
  case old => exact (State.setPsw_fullAt ..).trans (fullAt_putFull_self ..)
  case psw => exact (psw_setPsw ..).trans (State.setPsw_fullAt ..).symm
  case frame =>
    exact ⟨fun _ _ => rfl, fun b e outside => (State.setPsw_byteAt ..).trans (byteAt_putFull_of_notMem s _ outside),
      rfl, rfl, rfl⟩
  case devices => exact ⟨rfl, rfl, rfl⟩

theorem raiseSaving_exchanges (saved : Half) (ready : VectorReady s k) :
    ∃ t, raiseSaving k saved s = .next t ∧ Exchanges s t k saved := exchangePsw_exchanges saved ready.1 ready.2

/-- Free values drawn before an exchange are no part of it. -/
theorem exchanges_of_drawn {n : Nat} {saved : Half} (h : Exchanges (s.drawn n) t k saved) : Exchanges s t k saved := by
  obtain ⟨old, psw, ⟨registers, memory, platform, central, active⟩, ⟨pending, answers, requests⟩⟩ := h
  exact ⟨old, psw, ⟨registers, memory, platform, central, active⟩, ⟨pending, answers, requests⟩⟩

/-- The saved location counter is the code's own address, or a free value where the platform saves a successor. -/
theorem raiseUnassigned_exchanges (ready : VectorReady s .illegalInstruction) :
    ∃ t saved, raiseUnassigned s = .next t ∧ Exchanges s t .illegalInstruction saved ∧
      (s.platform.illegal.savesNext = false → saved = s.loc) := by
  cases next : s.platform.illegal.savesNext with
  | false =>
    obtain ⟨t, taken, exchange⟩ := raiseSaving_exchanges s.loc ready
    exact ⟨t, s.loc, by simpa [raiseUnassigned, next] using taken, exchange, fun _ => rfl⟩
  | true =>
    obtain ⟨t, taken, exchange⟩ := raiseSaving_exchanges (s := s.drawn 1) (Config.freeHalf s.draws) ready
    exact ⟨t, _, by simpa [raiseUnassigned, next] using taken, exchanges_of_drawn exchange, fun h => by cases h⟩

/-! The illegal instruction operation of the annex (49_annex_central_computer.md R524) -/

theorem centralIllegal_restart (restart : s.central.restartEnabled = true) :
    centralIllegal s = .next ((s.drawn 1).setCentral { s.central with
      illegalIndicator := true, tRegister := if s.freeBit 0 then s.central.pc else s.central.pc + 1, pc := 0 }) :=
  if_pos restart

theorem centralIllegal_noRestart (noRestart : s.central.restartEnabled = false) :
    centralIllegal s = .next (s.setCentral { s.central with illegalIndicator := true, pc := s.central.pc + 1 }) :=
  if_neg (by simp [noRestart])

theorem centralIllegal_illegalOperation (s : State) : ∃ t, centralIllegal s = .next t ∧ IllegalOperation s t := by
  cases restart : s.central.restartEnabled with
  | false =>
    exact ⟨_, centralIllegal_noRestart restart, rfl, fun h => by simp [restart] at h, fun _ => rfl⟩
  | true =>
    refine ⟨_, centralIllegal_restart restart, rfl, fun _ => ⟨rfl, ?_⟩, fun h => by simp [restart] at h⟩
    cases s.freeBit 0 <;> simp

end

/-! The statements -/

/-- Settles O6: the bytes an instruction is stored in are those the fetch reads for its format. -/
theorem stepRunsDecoded : Obligations.StepRunsDecoded := by
  unfold Obligations.StepRunsDecoded
  refine ⟨fun s i l active noInterrupt even encoded ready decoded => ?_, fun s i => step_central_fetched⟩
  obtain ⟨f, h, found, rfl⟩ := instr_of_decode decoded
  obtain ⟨l', encoded', length⟩ := encode_instr_length found _ _ h
  obtain rfl : l = l' := Code.bytes.inj (encoded.symm.trans encoded')
  have at0 : 0 < l.length := by rw [length]; split <;> decide
  have at1 : 1 < l.length := by rw [length]; split <;> decide
  have first : HalfReady s s.pbank s.loc := ⟨even, by simpa using ready 0 at0, ready 1 at1⟩
  have second (is32 : f.long = true) : HalfReady s s.pbank (s.loc + 2) := by
    rw [if_pos is32] at length
    exact ⟨(even_add_two s.loc).trans even, ready 2 (by omega), add_two_add_one s.loc ▸ ready 3 (by omega)⟩
  exact step_fetched active noInterrupt ((fetch_assigned first found second).trans (congrArg _ decoded))

/-- Settles O7: the step is the interrupt or the illegal instruction operation itself. -/
theorem unassignedCodeInterrupts : Obligations.UnassignedCodeInterrupts := by
  unfold Obligations.UnassignedCodeInterrupts
  refine ⟨fun s active noInterrupt first free ready => ?_, fun s active unassigned => ?_, decodeCentral_eq_none_iff⟩
  · rw [step_unassigned active noInterrupt (fetch_unassigned first free)]
    exact raiseUnassigned_exchanges ready
  · rw [step_central_unassigned active unassigned]
    exact centralIllegal_illegalOperation s

end Sys2Proof.Proofs
end

section
/-! Load and store (40_load_store.md): what a halfword or a run of halfwords read, written or taken into registers gives
and what it leaves alone, and from that the load and store instructions. -/

namespace Sys2Proof.Proofs

open Sys2Proof.Machine Sys2Proof.Safety

section

variable {s t : State} {b c : Bank} {e f : Half} {r1 : Reg}

/-! A run of halfwords in a bank (20_memory.md R79) -/

theorem halfAddress_succ (e : Half) (k : Nat) :
    e + BitVec.ofNat 16 (2 * (k + 1)) = e + 2 + BitVec.ofNat 16 (2 * k) := by
  rw [Nat.mul_succ, Nat.add_comm, BitVec.ofNat_add, BitVec.add_assoc]; rfl

theorem mem_byteRange_iff {n : Nat} : (c, f) ∈ byteRange b e n ↔ c = b ∧ (f - e).toNat < n := by
  simp only [byteRange, List.mem_map, List.mem_range, Prod.mk.injEq]
  constructor
  · rintro ⟨k, below, rfl, rfl⟩
    have offset : (e + BitVec.ofNat 16 k - e).toNat = k % 65536 := by bv_omega
    exact ⟨rfl, offset ▸ (Nat.mod_le k _).trans_lt below⟩
  · rintro ⟨rfl, below⟩
    exact ⟨(f - e).toNat, below, rfl, by rw [BitVec.ofNat_toNat, BitVec.setWidth_eq, add_sub_cancel]⟩

/-- The bytes of `n + 1` halfwords are those of the first and those of the other `n`. -/
theorem notMem_byteRange_succ {n : Nat} (outside : (c, f) ∉ byteRange b e (2 * (n + 1))) :
    (c, f) ∉ halfBytes b e ∧ (c, f) ∉ byteRange b (e + 2) (2 * n) := by
  simp only [halfBytes, List.mem_cons, List.not_mem_nil, Prod.mk.injEq, or_false, mem_byteRange_iff] at outside ⊢
  refine ⟨?first, ?rest⟩
  case first => rintro (⟨rfl, rfl⟩ | ⟨rfl, rfl⟩) <;> exact outside ⟨rfl, by bv_omega⟩
  case rest =>
    rintro ⟨rfl, below⟩
    exact outside ⟨rfl, by bv_omega⟩

/-- A run that does not come round to its own start leaves the halfword before it alone. -/
theorem notMem_byteRange_behind {n : Nat} (fits : n + 1 ≤ 32768) (inside : (c, f) ∈ halfBytes b e) :
    (c, f) ∉ byteRange b (e + 2) (2 * n) := by
  simp only [halfBytes, List.mem_cons, List.not_mem_nil, Prod.mk.injEq, or_false] at inside
  rw [mem_byteRange_iff]
  rintro ⟨-, below⟩
  rcases inside with ⟨-, rfl⟩ | ⟨-, rfl⟩ <;> bv_omega

/-! Successive reads and writes -/

/-- The `n` halfwords from `e` on, whatever is installed there; `readHalves` answers them where it does not fault. -/
def halvesFrom (s : State) (b : Bank) (e : Half) (n : Nat) : List Half :=
  (List.range n).map fun k => s.halfAt b (e + BitVec.ofNat 16 (2 * k))

@[simp] theorem halvesFrom_length (s : State) (b : Bank) (e : Half) (n : Nat) : (halvesFrom s b e n).length = n := by
  simp [halvesFrom]

theorem halvesFrom_getD {n k : Nat} (below : k < n) (d : Half) :
    (halvesFrom s b e n).getD k d = s.halfAt b (e + BitVec.ofNat 16 (2 * k)) := by simp [halvesFrom, below]

theorem halvesFrom_succ (s : State) (b : Bank) (e : Half) (n : Nat) :
    halvesFrom s b e (n + 1) = s.halfAt b e :: halvesFrom s b (e + 2) n := by
  simp only [halvesFrom, List.range_succ_eq_map, List.map_cons, List.map_map, Function.comp_def, Nat.succ_eq_add_one,
    halfAddress_succ, Nat.mul_zero, BitVec.ofNat_eq_ofNat, BitVec.add_zero]

theorem readHalves_ready {n : Nat} (ready : ∀ k < n, HalfReady s b (e + BitVec.ofNat 16 (2 * k))) :
    s.readHalves b e n = .ok (halvesFrom s b e n) := by
  induction n generalizing e with
  | zero => rfl
  | succ n ih =>
    obtain ⟨first, rest⟩ := (halvesReady_succ n).mp ready
    simp only [State.readHalves, readHalf_ready first, ih rest, Except.map, halvesFrom_succ]

theorem writeHalves_ready {vs : List Half}
    (ready : ∀ k < vs.length, HalfReady s b (e + BitVec.ofNat 16 (2 * k))) :
    ∃ t, s.writeHalves b e vs = .ok t := by
  induction vs generalizing s e with
  | nil => exact ⟨s, rfl⟩
  | cons v vs ih =>
    obtain ⟨first, rest⟩ := (halvesReady_succ vs.length).mp ready
    obtain ⟨t, written⟩ := ih (s := s.putHalf b e v) fun k below =>
      (halfReady_congr (State.putHalf_platform s b e v) _ _).mpr (rest k below)
    exact ⟨t, by simpa only [State.writeHalves, writeHalf_ready v first] using written⟩

theorem writeHalves_cons {v : Half} {vs : List Half} (written : s.writeHalves b e (v :: vs) = .ok t) :
    (s.putHalf b e v).writeHalves b (e + 2) vs = .ok t := by
  unfold State.writeHalves at written
  split at written
  case h_1 first =>
    obtain ⟨rfl, -⟩ := writeHalf_ok first
    exact written
  case h_2 => cases written

theorem byteAt_putHalf_of_notMem (s : State) (v : Half) (outside : (c, f) ∉ halfBytes b e) :
    (s.putHalf b e v).byteAt c f = s.byteAt c f := by
  simp only [halfBytes, List.mem_cons, List.not_mem_nil, Prod.mk.injEq, or_false, not_or] at outside
  obtain ⟨notHigh, notLow⟩ := outside
  rw [byteAt_putHalf, if_neg fun h => notLow ⟨h.1.symm, h.2.symm⟩, if_neg fun h => notHigh ⟨h.1.symm, h.2.symm⟩]

theorem byteAt_writeHalves_of_notMem {vs : List Half} (written : s.writeHalves b e vs = .ok t)
    (outside : (c, f) ∉ byteRange b e (2 * vs.length)) : t.byteAt c f = s.byteAt c f := by
  induction vs generalizing s e with
  | nil => cases written; rfl
  | cons v vs ih =>
    obtain ⟨notFirst, notRest⟩ := notMem_byteRange_succ outside
    rw [ih (writeHalves_cons written) notRest, byteAt_putHalf_of_notMem s v notFirst]

/-- Each value is read back where it was written, as long as the run does not overwrite its own start. -/
theorem halfAt_writeHalves {vs : List Half} (written : s.writeHalves b e vs = .ok t) (fits : vs.length ≤ 32768)
    {k : Nat} (below : k < vs.length) : t.halfAt b (e + BitVec.ofNat 16 (2 * k)) = vs[k] := by
  induction vs generalizing s e k with
  | nil => cases below
  | cons v vs ih =>
    have later := writeHalves_cons written
    cases k with
    | succ k =>
      rw [halfAddress_succ]
      exact ih later (Nat.le_of_succ_le fits) (Nat.lt_of_succ_lt_succ below)
    | zero =>
      have kept (f : Half) (inside : (b, f) ∈ halfBytes b e) : t.byteAt b f = (s.putHalf b e v).byteAt b f :=
        byteAt_writeHalves_of_notMem later (notMem_byteRange_behind fits inside)
      calc t.halfAt b (e + BitVec.ofNat 16 (2 * 0))
          = t.halfAt b e := by simp
        _ = (s.putHalf b e v).halfAt b e := by
          rw [State.halfAt, State.halfAt, kept e (by simp [halfBytes]), kept (e + 1) (by simp [halfBytes])]
        _ = v := halfAt_putHalf_self s b e v

/-- Successive writes change the bytes of their run and nothing else. -/
theorem writeHalves_ordinary {vs : List Half} (written : s.writeHalves b e vs = .ok t) :
    Ordinary s t [] (byteRange b e (2 * vs.length)) := by
  have memory (c : Bank) (f : Half) : (c, f) ∉ byteRange b e (2 * vs.length) → t.byteAt c f = s.byteAt c f :=
    byteAt_writeHalves_of_notMem written
  obtain ⟨same, -⟩ := writeHalves_ok vs written
  rw [same] at memory ⊢
  exact ⟨⟨fun _ _ => rfl, memory, rfl, rfl, rfl⟩, rfl, ⟨rfl, rfl, rfl⟩⟩

/-! Successive registers -/

theorem setRegsFrom_eq (s : State) (k : Nat) (vs : List Half) :
    s.setRegsFrom k vs = { s with regs := (s.setRegsFrom k vs).regs } := by
  induction vs generalizing s k with
  | nil => rfl
  | cons v vs ih => rw [State.setRegsFrom, ih]; rfl

/-- Registers from `k` on hold the listed values, every other one what it held. -/
theorem reg_setRegsFrom {k : Nat} {vs : List Half} (fits : k + vs.length ≤ 16) (r : Reg) :
    (s.setRegsFrom k vs).reg r = if r.val < k then s.reg r else vs.getD (r.val - k) (s.reg r) := by
  induction vs generalizing s k with
  | nil => simp [State.setRegsFrom]
  | cons v vs ih =>
    rw [List.length_cons] at fits
    have here : (Fin.ofNat 16 k : Reg) = r ↔ k = r.val := by
      rw [Fin.ext_iff, Fin.val_ofNat, Nat.mod_eq_of_lt (by omega)]
    rw [State.setRegsFrom, ih (by omega), reg_setReg, if_congr here rfl rfl]
    rcases Nat.lt_trichotomy r.val k with lower | rfl | upper
    · rw [if_pos (by omega), if_neg (by omega), if_pos lower]
    · simp
    · have index : r.val - k = r.val - (k + 1) + 1 := by omega
      rw [if_neg (by omega), if_neg (by omega), if_neg (by omega), index, List.getD_cons_succ]

theorem regsFrom_getElem {r : Reg} (above : r1 ≤ r) (below : r.val - r1.val < (s.regsFrom r1).length) :
    (s.regsFrom r1)[r.val - r1.val] = s.reg r := by
  have number : r1.val + (r.val - r1.val) = r.val := Nat.add_sub_cancel' above
  simp [State.regsFrom, number]

/-- A run of registers up to R15 changes those registers and nothing else. -/
theorem setRegsFrom_ordinary {vs : List Half} (fits : r1.val + vs.length ≤ 16) :
    Ordinary s (s.setRegsFrom r1.val vs) ((List.finRange 16).filter fun r => decide (r1 ≤ r)) [] := by
  have registers (r : Reg) (outside : r ∉ (List.finRange 16).filter fun r => decide (r1 ≤ r)) :
      (s.setRegsFrom r1.val vs).reg r = s.reg r :=
    (reg_setRegsFrom fits r).trans (if_pos (by simpa using outside))
  rw [setRegsFrom_eq] at registers ⊢
  exact ⟨⟨registers, fun _ _ _ => rfl, rfl, rfl, rfl⟩, rfl, ⟨rfl, rfl, rfl⟩⟩

/-! One register and one halfword -/

/-- A load tells the sign of what R1 received (40_load_store.md R156). -/
theorem loadInto_loadsValue (s : State) (r1 : Reg) (v len : Half) :
    LoadsValue (.next (loadInto len r1 v s)) s r1 v len := by
  refine ⟨_, rfl, reg_setReg_self s r1 v, signFlags_setLoadCC (s.setReg r1 v) v, rfl, ?_⟩
  refine ⟨⟨fun r other => ?_, fun _ _ _ => rfl, rfl, rfl, rfl⟩, rfl, ⟨rfl, rfl, rfl⟩⟩
  exact (reg_setReg s r1 r v).trans (if_neg (Ne.symm (List.ne_of_not_mem_cons other)))

theorem loadFrom_loadsValue (ready : HalfReady s b e) :
    LoadsValue (loadFrom b e r1 s) s r1 (s.byteAt b e ++ s.byteAt b (e + 1)) 4 := by
  rw [loadFrom, readHalf_ready ready, attempt_ok]
  exact loadInto_loadsValue s r1 _ 4

theorem storeTo_storesHalf (ready : HalfReady s b e) :
    StoresHalf (storeTo b e r1 s) s b e (s.reg r1) := by
  rw [storeTo, writeHalf_ready _ ready, attempt_ok]
  refine ⟨_, rfl, halfAt_putHalf_self s b e _, rfl, rfl, ?_⟩
  exact ⟨⟨fun _ _ => rfl, fun _ _ => byteAt_putHalf_of_notMem s _, rfl, rfl, rfl⟩, rfl, ⟨rfl, rfl, rfl⟩⟩

theorem literal_eq_ofNat (n : BitVec 4) : literal n = BitVec.ofNat 16 n.toNat := (BitVec.ofNat_toNat 16 n).symm

theorem neg_literal_eq_ofInt (n : BitVec 4) : -(literal n) = BitVec.ofInt 16 (-(n.toNat : Int)) := by
  rw [literal_eq_ofNat, BitVec.ofInt_neg, BitVec.ofInt_natCast]

/-! Load and store multiple -/

theorem attempt_of_ok {α : Type} {r : Except Fault α} {a : α} (h : r = .ok a) (k : α → Result) :
    attempt r k = k a := by rw [h, attempt_ok]

theorem ordinary_advance {regs : List Reg} {bytes : List (Bank × Half)} (h : Ordinary s t regs bytes) (n : Half) :
    Ordinary s (t.advance n) regs bytes := by
  obtain ⟨⟨registers, memory, platform, central, active⟩, control, ⟨pending, answers, requests⟩⟩ := h
  exact ⟨⟨registers, memory, platform, central, active⟩, control, ⟨pending, answers, requests⟩⟩

/-- LM takes the halfwords it reads into R1 to R15, in order (40_load_store.md R149). -/
theorem lm_loads {x2 : Reg} {a2 : Half}
    (ready : ∀ k < 16 - r1.val, HalfReady s s.obank (s.sum a2 x2 + BitVec.ofNat 16 (2 * k))) :
    ∃ t, exec (.lm r1 x2 a2) s = .next t ∧ t.cc = s.cc ∧ t.loc = s.loc + 4 ∧
      (∀ r : Reg, r1 ≤ r → t.reg r = s.halfAt s.obank (s.sum a2 x2 + BitVec.ofNat 16 (2 * (r.val - r1.val)))) ∧
      Ordinary s t ((List.finRange 16).filter fun r => decide (r1 ≤ r)) [] := by
  have fits : r1.val + (halvesFrom s s.obank (s.sum a2 x2) (16 - r1.val)).length ≤ 16 := by
    rw [halvesFrom_length]; omega
  refine ⟨_, attempt_of_ok (readHalves_ready ready) _, by rw [setRegsFrom_eq]; rfl, by rw [setRegsFrom_eq]; rfl,
    fun r above => ?_, ordinary_advance (setRegsFrom_ordinary fits) 4⟩
  have below : r.val - r1.val < 16 - r1.val := by omega
  exact (reg_setRegsFrom fits r).trans ((if_neg (Nat.not_lt.mpr above)).trans (halvesFrom_getD below _))

/-- STM stores R1 to R15 in order; at most 32 bytes, so that no halfword is stored over another (40_load_store.md
R150). -/
theorem stm_stores {x2 : Reg} {a2 : Half}
    (ready : ∀ k < 16 - r1.val, HalfReady s s.obank (s.sum a2 x2 + BitVec.ofNat 16 (2 * k))) :
    ∃ t, exec (.stm r1 x2 a2) s = .next t ∧ t.cc = s.cc ∧ t.loc = s.loc + 4 ∧
      (∀ r : Reg, r1 ≤ r → t.halfAt s.obank (s.sum a2 x2 + BitVec.ofNat 16 (2 * (r.val - r1.val))) = s.reg r) ∧
      Ordinary s t [] (byteRange s.obank (s.sum a2 x2) (2 * (16 - r1.val))) := by
  have length := regsFrom_length s r1
  obtain ⟨u, written⟩ := writeHalves_ready (vs := s.regsFrom r1) (length.symm ▸ ready)
  obtain ⟨same, -⟩ := writeHalves_ok _ written
  have ordinary : Ordinary s u [] (byteRange s.obank (s.sum a2 x2) (2 * (16 - r1.val))) :=
    length ▸ writeHalves_ordinary written
  refine ⟨_, attempt_of_ok written _, by rw [same]; rfl, by rw [same]; rfl, fun r above => ?_,
    ordinary_advance ordinary 4⟩
  have below : r.val - r1.val < (s.regsFrom r1).length := by omega
  exact (halfAt_writeHalves written (by omega) below).trans (regsFrom_getElem above below)

end

/-! The statements -/

/-- Settles O10: each is a load of its operand into R1. -/
theorem loadRegister : Obligations.LoadRegister := by
  unfold Obligations.LoadRegister
  intro s r1 r2 n
  refine ⟨?lis, ?lcs, loadInto_loadsValue s r1 (s.reg r2) 2, rfl, rfl, rfl⟩
  case lis => exact literal_eq_ofNat n ▸ loadInto_loadsValue s r1 (literal n) 2
  case lcs => exact neg_literal_eq_ofInt n ▸ loadInto_loadsValue s r1 (-(literal n)) 2

/-- Settles O11: LHI loads the sum itself, the others are one load from the bank they name. -/
theorem loadHalfword : Obligations.LoadHalfword := by
  unfold Obligations.LoadHalfword
  intro s r1 x2 a2
  refine ⟨loadInto_loadsValue s r1 (s.sum a2 x2) 4, ?_⟩
  simp only [List.forall_mem_cons, List.not_mem_nil, false_implies, implies_true, and_true]
  exact ⟨loadFrom_loadsValue, loadFrom_loadsValue, loadFrom_loadsValue, loadFrom_loadsValue, loadFrom_loadsValue⟩

/-- Settles O12: each is one store to the bank it names. -/
theorem storeHalfword : Obligations.StoreHalfword := by
  unfold Obligations.StoreHalfword
  intro s r1 x2 a2
  simp only [List.forall_mem_cons, List.not_mem_nil, false_implies, implies_true, and_true]
  exact ⟨storeTo_storesHalf, storeTo_storesHalf, storeTo_storesHalf, storeTo_storesHalf, storeTo_storesHalf⟩

/-- Settles O13: the run of halfwords read or written is the run of registers, in order. -/
theorem loadStoreMultiple : Obligations.LoadStoreMultiple := by
  unfold Obligations.LoadStoreMultiple
  exact fun _ _ _ _ ready => ⟨lm_loads ready, stm_stores ready⟩

end Sys2Proof.Proofs
end

section
/-! Fixed-point arithmetic (41_fixed_point_arithmetic.md): the exact result an add, a subtract, a multiply or a divide
leaves, what a divide that faults does, and from that the arithmetic instructions. -/

namespace Sys2Proof.Proofs

open Sys2Proof.Machine Sys2Proof.Safety

section

variable {s t : State} {r1 r2 x2 : Reg} {a d len : Half} {regs : List Reg} {bytes : List (Bank × Half)}
  {r : Result} {P : Full → Prop}

/-! What a register, a flag or a free value written keeps -/

theorem ordinary_refl (s : State) (regs : List Reg) (bytes : List (Bank × Half)) : Ordinary s s regs bytes :=
  ⟨⟨fun _ _ => rfl, fun _ _ _ => rfl, rfl, rfl, rfl⟩, rfl, ⟨rfl, rfl, rfl⟩⟩

theorem ordinary_setReg (h : Ordinary s t regs bytes) (named : r1 ∈ regs) (v : Half) :
    Ordinary s (t.setReg r1 v) regs bytes := by
  obtain ⟨⟨registers, memory, platform, central, active⟩, control, ⟨pending, answers, requests⟩⟩ := h
  refine ⟨⟨fun q other => ?_, memory, platform, central, active⟩, control, ⟨pending, answers, requests⟩⟩
  have elsewhere : r1 ≠ q := fun same => other (same ▸ named)
  rw [reg_setReg, if_neg elsewhere, registers q other]

theorem ordinary_setArithCC (h : Ordinary s t regs bytes) (x : Arith) : Ordinary s (t.setArithCC x) regs bytes := by
  obtain ⟨⟨registers, memory, platform, central, active⟩, control, ⟨pending, answers, requests⟩⟩ := h
  exact ⟨⟨registers, memory, platform, central, active⟩, control, ⟨pending, answers, requests⟩⟩

/-- Free values drawn before an instruction's effect are no part of it. -/
theorem ordinary_of_drawn {n : Nat} (h : Ordinary (s.drawn n) t regs bytes) : Ordinary s t regs bytes := by
  obtain ⟨⟨registers, memory, platform, central, active⟩, control, ⟨pending, answers, requests⟩⟩ := h
  exact ⟨⟨registers, memory, platform, central, active⟩, control, ⟨pending, answers, requests⟩⟩

theorem ordinary_putHalf (s : State) (b : Bank) (e v : Half) (regs : List Reg) :
    Ordinary s (s.putHalf b e v) regs (halfBytes b e) :=
  ⟨⟨fun _ _ => rfl, fun _ _ => byteAt_putHalf_of_notMem s v, rfl, rfl, rfl⟩, rfl, ⟨rfl, rfl, rfl⟩⟩

/-! Operands -/

theorem attempt_operandHalf_ready (ready : HalfReady s s.obank (s.sum a x2)) (k : Half → Result) :
    attempt (s.operandHalf a x2) k = k (s.halfAt s.obank (s.sum a x2)) :=
  attempt_of_ok (readHalf_ready ready) k

theorem evenPair_even (even : r1.val % 2 = 0) (k : Result) : evenPair r1 k = k := if_pos even

theorem evenPair_odd (odd : r1.val % 2 = 1) (k : Result) : evenPair r1 k = .refused .oddPairRegister :=
  if_neg (by omega)

/-! Add and subtract (R170) -/

theorem setArithCC_flags (s : State) (x : Arith) :
    flagC (s.setArithCC x) = x.carry ∧ flagV (s.setArithCC x) = x.overflow ∧ SignFlags (s.setArithCC x) x.value :=
  ⟨flagC_setResultCC s _ _ _, flagV_setResultCC s _ _ _, signFlags_setResultCC s _ _ _⟩

theorem arithInto_sumsInto {total : Int} {c : Bool} {x : Arith} (next : r = .next (arithInto len r1 x s))
    (result : x = ⟨BitVec.ofInt 16 total, c, decide (total < -32768 ∨ 32767 < total)⟩) :
    SumsInto r s r1 total c len := by
  subst result
  obtain ⟨carry, overflow, sign⟩ := setArithCC_flags (s.setReg r1 (BitVec.ofInt 16 total)) ⟨_, c, _⟩
  have value : (s.setReg r1 (BitVec.ofInt 16 total)).reg r1 = BitVec.ofInt 16 total := reg_setReg_self s r1 _
  have stored : Ordinary s (s.setReg r1 (BitVec.ofInt 16 total)) [r1] [] :=
    ordinary_setReg (ordinary_refl s _ _) (List.mem_singleton_self r1) _
  exact ⟨_, next, value, carry, overflow, value.symm ▸ sign, rfl, ordinary_advance (ordinary_setArithCC stored _) len⟩

theorem addHalf_addsInto {b : Half} {cin : Bool} (next : r = .next (arithInto len r1 (addHalf (s.reg r1) b cin) s)) :
    AddsInto r s r1 b cin len := arithInto_sumsInto next (addHalf_eq _ b cin)

theorem subHalf_subtractsFrom {b : Half} {cin : Bool}
    (next : r = .next (arithInto len r1 (subHalf (s.reg r1) b cin) s)) : SubtractsFrom r s r1 b cin len :=
  arithInto_sumsInto next (subHalf_eq _ b cin)

/-- The sum without a carry in, its carry as the model states it and its overflow in signed numbers. -/
theorem addHalf_noCarry (a b : Half) :
    addHalf a b false = ⟨BitVec.ofNat 16 (a.toNat + b.toNat), decide (65536 ≤ a.toNat + b.toNat),
      decide (a.toInt + b.toInt < -32768 ∨ 32767 < a.toInt + b.toInt)⟩ := by
  have overflow : (addHalf a b false).overflow = decide (a.toInt + b.toInt < -32768 ∨ 32767 < a.toInt + b.toInt) := by
    rw [addHalf_eq, Bool.toNat_false, Int.natCast_zero, Int.add_zero]
  exact congrArg (Arith.mk _ _) overflow

theorem ahm_adds (ready : HalfReady s s.obank (s.sum a x2)) :
    let p := (s.reg r1).toNat + (s.halfAt s.obank (s.sum a x2)).toNat
    let v := (s.reg r1).toInt + (s.halfAt s.obank (s.sum a x2)).toInt
    ∃ t, exec (.ahm r1 x2 a) s = .next t ∧ t.halfAt s.obank (s.sum a x2) = BitVec.ofNat 16 p ∧
      flagC t = decide (65536 ≤ p) ∧ flagV t = decide (v < -32768 ∨ 32767 < v) ∧
      SignFlags t (BitVec.ofNat 16 p) ∧ t.loc = s.loc + 4 ∧
      Ordinary s t [] (halfBytes s.obank (s.sum a x2)) := by
  intro p v
  have next : exec (.ahm r1 x2 a) s =
      .next (((s.putHalf s.obank (s.sum a x2) (BitVec.ofNat 16 p)).setArithCC
        ⟨BitVec.ofNat 16 p, decide (65536 ≤ p), decide (v < -32768 ∨ 32767 < v)⟩).advance 4) := by
    rw [← addHalf_noCarry]
    exact (attempt_operandHalf_ready ready _).trans (attempt_of_ok (writeHalf_ready _ ready) _)
  obtain ⟨carry, overflow, sign⟩ :=
    setArithCC_flags (s.putHalf s.obank (s.sum a x2) (BitVec.ofNat 16 p)) ⟨_, _, _⟩
  exact ⟨_, next, halfAt_putHalf_self s _ _ _, carry, overflow, sign, rfl,
    ordinary_advance (ordinary_setArithCC (ordinary_putHalf s _ _ _ []) _) 4⟩

/-! Register pairs -/

theorem pair_setPair_self (s : State) (r : Reg) (v : Full) : (s.setPair r v).pair r = v := by
  have next : r + 1 ≠ r := by simp
  rw [State.pair, reg_setPair, reg_setPair, if_neg next, if_pos rfl, if_pos rfl, full_split]

theorem ordinary_setPair (h : Ordinary s t [r1, r1 + 1] bytes) (v : Full) :
    Ordinary s (t.setPair r1 v) [r1, r1 + 1] bytes :=
  ordinary_setReg (ordinary_setReg h (by simp) _) (by simp) _

theorem productInto_pairBecomes {v : Full} (next : r = .next (productInto len r1 v s)) (holds : P v) :
    PairBecomes r s r1 len P := by
  have pair : (s.setPair r1 v).pair r1 = v := pair_setPair_self s r1 v
  exact ⟨_, next, pair.symm ▸ holds, rfl, rfl, ordinary_advance (ordinary_setPair (ordinary_refl s _ _) v) len⟩

/-- Remainder and quotient are the two halves of one pair. -/
theorem quotientInto_eq (len : Half) (r1 : Reg) (quotient remainder : Half) (s : State) :
    quotientInto len r1 quotient remainder s = productInto len r1 (remainder ++ quotient) s := by
  rw [quotientInto, productInto, State.setPair, BitVec.extractLsb'_append_eq_left, BitVec.extractLsb'_append_eq_right]

theorem pairBecomes_of_drawn {n : Nat} (h : PairBecomes r (s.drawn n) r1 len P) : PairBecomes r s r1 len P := by
  obtain ⟨t, next, holds, cc, loc, frame⟩ := h
  exact ⟨t, next, holds, cc, loc, ordinary_of_drawn frame⟩

/-! Multiply (R184) -/

/-- The signed product of two halfwords fits a fullword. -/
theorem productSigned_toInt (a b : Half) : (productSigned a b).toInt = a.toInt * b.toInt := by
  have low : -2 ^ 30 ≤ a.toInt * b.toInt := BitVec.le_toInt_mul_toInt
  have high : a.toInt * b.toInt ≤ 2 ^ 30 := BitVec.toInt_mul_toInt_le
  exact BitVec.toInt_ofInt_eq_self (by decide) (by omega) (by omega)

/-- The product of two magnitudes fits a fullword. -/
theorem productUnsigned_toNat (a b : Half) : (productUnsigned a b).toNat = a.toNat * b.toNat := by
  have fits : a.toNat * b.toNat < 2 ^ 16 * 2 ^ 16 := Nat.mul_lt_mul'' a.isLt b.isLt
  exact Nat.mod_eq_of_lt fits

/-! Divide (R191) -/

theorem toInt_ofInt_of_natAbs_le {x : Int} (fits : x.natAbs ≤ 32767) : (BitVec.ofInt 16 x).toInt = x :=
  BitVec.toInt_ofInt_eq_self (by decide) (by omega) (by omega)

/-- A remainder is less in magnitude than its divisor, so it fits a register. -/
theorem natAbs_tmod_le (n : Int) (nonzero : d ≠ 0) : (n.tmod d.toInt).natAbs ≤ 32767 := by
  have divisor : d.toInt ≠ 0 := BitVec.toInt_ne.mpr nonzero
  have low : -2 ^ 15 ≤ d.toInt := BitVec.le_toInt d
  have high : d.toInt < 2 ^ 15 := BitVec.toInt_lt
  have below : n.natAbs % d.toInt.natAbs < d.toInt.natAbs := Nat.mod_lt _ (Int.natAbs_pos.mpr divisor)
  rw [Int.natAbs_tmod]
  omega

theorem divide_faults {n m : Int} (outside : m = 0 ∨ 32768 < (n.tdiv m).natAbs) :
    divide len r1 n m s = divideFault len s := by
  by_cases zero : m = 0
  · exact if_pos zero
  · exact (if_neg zero).trans (if_pos (outside.resolve_left zero))

theorem divide_fits {n m : Int} (nonzero : m ≠ 0) (fits : (n.tdiv m).natAbs ≤ 32767) :
    divide len r1 n m s =
      .next (quotientInto len r1 (BitVec.ofInt 16 (n.tdiv m)) (BitVec.ofInt 16 (n.tmod m)) s) :=
  (if_neg nonzero).trans ((if_neg (by omega)).trans (if_neg (by omega)))

theorem divide_boundary_refused {n m : Int} (nonzero : m ≠ 0) (boundary : (n.tdiv m).natAbs = 32768)
    (policy : s.platform.undefined = .refused) : divide len r1 n m s = .refused .divideQuotientBoundary :=
  (if_neg nonzero).trans ((if_neg (by omega)).trans ((if_pos boundary).trans (if_pos policy)))

/-- At the boundary the other policy faults or delivers; a negative quotient is then X'8000'. -/
theorem divide_boundary_goesOn {n m : Int} (nonzero : m ≠ 0) (boundary : (n.tdiv m).natAbs = 32768)
    (policy : s.platform.undefined = .goesOn) :
    divide len r1 n m s = divideFault len (s.drawn 2) ∨
      ∃ quotient : Half, (n.tdiv m < 0 → quotient = 0x8000) ∧
        divide len r1 n m s = .next (quotientInto len r1 quotient (BitVec.ofInt 16 (n.tmod m)) (s.drawn 2)) := by
  have goesOn : s.platform.undefined ≠ .refused := by simp [policy]
  unfold divide
  rw [if_neg nonzero, if_neg (by omega), if_pos boundary, if_neg goesOn]
  split
  · exact .inl rfl
  · refine .inr ⟨_, fun negative => ?_, rfl⟩
    have quotient : n.tdiv m = -32768 := by omega
    rw [if_pos negative, quotient]
    rfl

theorem quotientInto_pairBecomes {quotient remainder : Half}
    (next : r = .next (quotientInto len r1 quotient remainder s)) (holds : P (remainder ++ quotient)) :
    PairBecomes r s r1 len P :=
  productInto_pairBecomes (next.trans (congrArg _ (quotientInto_eq ..))) holds

/-- Both forms are one divide of the pair by their second operand. -/
theorem exec_divide {i : Instr}
    (form : (i = .dhr r1 r2 ∧ d = s.reg r2 ∧ len = 2) ∨
      (i = .dh r1 x2 a ∧ d = s.halfAt s.obank (s.sum a x2) ∧ len = 4 ∧ HalfReady s s.obank (s.sum a x2))) :
    exec i s = evenPair r1 (divide len r1 (s.pair r1).toInt d.toInt s) := by
  rcases form with ⟨rfl, rfl, rfl⟩ | ⟨rfl, rfl, rfl, ready⟩
  · rfl
  · exact congrArg (evenPair r1) (attempt_operandHalf_ready ready _)

/-! The divide fault (60_exceptions.md R543, R545) -/

theorem divideFault_onlyAdvances (disabled : s.fde = false) : OnlyAdvances (divideFault len s) s len := by
  rw [divideFault, if_neg (by simp [disabled])]
  exact ⟨_, rfl, rfl, rfl, ordinary_advance (ordinary_refl s [] []) len⟩

theorem raise_interrupts {k : Interrupt} (ready : VectorReady s k) : Interrupts (raise k len s) s k len :=
  raiseSaving_exchanges _ ready

theorem divideFault_interrupts (enabled : s.fde = true) (ready : VectorReady s .fixedPointDivideFault) :
    Interrupts (divideFault len s) s .fixedPointDivideFault len := by
  rw [divideFault, if_pos enabled]
  exact raise_interrupts ready

end

/-! The statements -/

/-- Settles O14: each is one add; AHM writes its sum to the operand it read. -/
theorem addHalfword : Obligations.AddHalfword := by
  unfold Obligations.AddHalfword
  intro s r1 r2 x2 n a
  refine ⟨?ais, addHalf_addsInto rfl, addHalf_addsInto rfl, addHalf_addsInto rfl,
    fun ready => ⟨?ah, ?ach, ahm_adds ready⟩⟩
  case ais => exact literal_eq_ofNat n ▸ addHalf_addsInto rfl
  case ah | ach => exact addHalf_addsInto (attempt_operandHalf_ready ready _)

/-- Settles O15: each is one subtract. -/
theorem subtractHalfword : Obligations.SubtractHalfword := by
  unfold Obligations.SubtractHalfword
  intro s r1 r2 x2 n a
  refine ⟨?sis, subHalf_subtractsFrom rfl, subHalf_subtractsFrom rfl, subHalf_subtractsFrom rfl,
    fun ready => ⟨?sh, ?sch⟩⟩
  case sis => exact literal_eq_ofNat n ▸ subHalf_subtractsFrom rfl
  case sh | sch => exact subHalf_subtractsFrom (attempt_operandHalf_ready ready _)

/-- Settles O16: a product always fits the pair. -/
theorem multiply : Obligations.Multiply := by
  unfold Obligations.Multiply
  intro s r1 r2 x2 a2
  refine ⟨fun even => ?registers, fun even ready => ?storage, fun odd => ?odd⟩
  case registers =>
    have run (k : Result) := evenPair_even even k
    exact ⟨productInto_pairBecomes (run _) (productSigned_toInt _ _),
      productInto_pairBecomes (run _) (productUnsigned_toNat _ _)⟩
  case storage =>
    have run (k : Half → Result) := (evenPair_even even _).trans (attempt_operandHalf_ready ready k)
    exact ⟨productInto_pairBecomes (run _) (productSigned_toInt _ _),
      productInto_pairBecomes (run _) (productUnsigned_toNat _ _)⟩
  case odd =>
    simp only [List.forall_mem_cons, List.not_mem_nil, false_implies, implies_true, and_true]
    exact ⟨evenPair_odd odd _, evenPair_odd odd _, evenPair_odd odd _, evenPair_odd odd _⟩

/-- Settles O17: the remainder always fits R1, so only the quotient decides between the cases. (Without its last word
the theorem's name would hide the model's `divide` in this namespace.) -/
theorem divideObligation : Obligations.Divide := by
  unfold Obligations.Divide
  intro s r1 r2 x2 a2 d len i form q r
  rw [exec_divide form]
  have remainder (nonzero : d ≠ 0) : (BitVec.ofInt 16 r).toInt = r :=
    toInt_ofInt_of_natAbs_le (natAbs_tmod_le _ nonzero)
  refine ⟨fun even nonzero fits => ?fits, fun even nonzero boundary policy => ?goesOn,
    fun even nonzero boundary policy => ?refused, fun odd => evenPair_odd odd _⟩
  case fits =>
    rw [evenPair_even even]
    refine quotientInto_pairBecomes (divide_fits (BitVec.toInt_ne.mpr nonzero) fits) ⟨?_, ?_⟩
    · rw [BitVec.extractLsb'_append_eq_left, remainder nonzero]
    · rw [BitVec.extractLsb'_append_eq_right, toInt_ofInt_of_natAbs_le fits]
  case goesOn =>
    rw [evenPair_even even]
    refine (divide_boundary_goesOn (BitVec.toInt_ne.mpr nonzero) boundary policy).imp_right ?_
    rintro ⟨quotient, negative, delivers⟩
    refine pairBecomes_of_drawn (quotientInto_pairBecomes delivers ⟨?_, fun below => ?_⟩)
    · rw [BitVec.extractLsb'_append_eq_left, remainder nonzero]
    · rw [BitVec.extractLsb'_append_eq_right, negative below]
  case refused =>
    rw [evenPair_even even, divide_boundary_refused (BitVec.toInt_ne.mpr nonzero) boundary policy]

/-- Settles O18: both reasons to fault end in the same divide fault. -/
theorem divideFaults : Obligations.DivideFaults := by
  unfold Obligations.DivideFaults
  intro s r1 r2 x2 a2 d len i even form outside
  have divisor : d.toInt = 0 ∨ 32768 < ((s.pair r1).toInt.tdiv d.toInt).natAbs :=
    outside.imp_left fun zero => by rw [zero]; rfl
  rw [exec_divide form, evenPair_even even, divide_faults divisor]
  exact ⟨divideFault_onlyAdvances, divideFault_interrupts⟩

end Sys2Proof.Proofs
end

section
/-! Logical, compare and byte handling (42_logical_compare_byte.md): what writing flags or one byte leaves alone, what a
compare and a byte move answer, and from that the logical, compare and byte instructions. -/

namespace Sys2Proof.Proofs

open Sys2Proof.Machine Sys2Proof.Safety

section

variable {s t : State} {r1 x2 : Reg} {a len v : Half} {regs : List Reg} {bytes : List (Bank × Half)} {r : Result}

/-! What flags, free values or a byte written keep -/

theorem ordinary_setCC (h : Ordinary s t regs bytes) (c : BitVec 4) : Ordinary s (t.setCC c) regs bytes := by
  obtain ⟨⟨registers, memory, platform, central, active⟩, control, ⟨pending, answers, requests⟩⟩ := h
  exact ⟨⟨registers, memory, platform, central, active⟩, control, ⟨pending, answers, requests⟩⟩

theorem ordinary_drawn (h : Ordinary s t regs bytes) (n : Nat) : Ordinary s (t.drawn n) regs bytes := by
  obtain ⟨⟨registers, memory, platform, central, active⟩, control, ⟨pending, answers, requests⟩⟩ := h
  exact ⟨⟨registers, memory, platform, central, active⟩, control, ⟨pending, answers, requests⟩⟩

/-- An instruction that writes the Condition Code, draws the free flags it needs and goes on touches nothing else. -/
theorem flags_ordinary (s : State) (c : BitVec 4) (n : Nat) (len : Half) :
    Ordinary s (((s.setCC c).drawn n).advance len) [] [] :=
  ordinary_advance (ordinary_drawn (ordinary_setCC (ordinary_refl s [] []) c) n) len

theorem ordinary_putByte (s : State) (b : Bank) (e : Half) (v : Byte) (regs : List Reg) :
    Ordinary s (s.putByte b e v) regs [(b, e)] := by
  refine ⟨⟨fun _ _ => rfl, fun c f outside => ?_, rfl, rfl, rfl⟩, rfl, ⟨rfl, rfl, rfl⟩⟩
  have elsewhere : ¬(b = c ∧ e = f) := by
    rintro ⟨rfl, rfl⟩
    exact outside (List.mem_singleton_self _)
  rw [byteAt_putByte, if_neg elsewhere]

/-! Operands -/

theorem attempt_operandByte_ready (ready : ByteReady s s.obank (s.sum a x2)) (k : Byte → Result) :
    attempt (s.operandByte a x2) k = k (s.byteAt s.obank (s.sum a x2)) :=
  attempt_of_ok (readByte_ready ready) k

/-- A byte in a register has a left-most byte of zeros (R219). -/
theorem zextByte_eq_append (b : Byte) : zextByte b = (0 : Byte) ++ b :=
  BitVec.setWidth_eq_append (by decide)

/-! Results -/

/-- A logical result sets the Condition Code as a load does (R200). -/
theorem loadsValue_of_next (next : r = .next (loadInto len r1 v s)) : LoadsValue r s r1 v len :=
  next ▸ loadInto_loadsValue s r1 v len

theorem comparesLogically_of_next {n : Nat} {x y : BitVec n}
    (next : r = .next ((s.setLogicalCompareCC x y).advance len)) : ComparesLogically r s x y len := by
  obtain ⟨borrow, sign⟩ := setLogicalCompareCC_flags s x y
  exact ⟨_, next, borrow, sign, rfl, flags_ordinary s _ 1 len⟩

theorem compares_of_next {x y : Half} (next : r = .next ((s.setCompareCC x y).advance len)) :
    Compares r s x y len := by
  obtain ⟨carry, greater, less⟩ := setCompareCC_flags s x y
  exact ⟨_, next, carry, greater, less, rfl, flags_ordinary s _ 1 len⟩

theorem movesValue_of_next (next : r = .next ((s.setReg r1 v).advance len)) : MovesValue r s r1 v len := by
  have stored : Ordinary s (s.setReg r1 v) [r1] [] :=
    ordinary_setReg (ordinary_refl s _ _) (List.mem_singleton_self r1) v
  exact ⟨_, next, reg_setReg_self s r1 v, rfl, rfl, ordinary_advance stored len⟩

/-- THI tells the sign of the AND and writes it nowhere (R210). -/
theorem thi_tests (s : State) (r1 x2 : Reg) (a : Half) :
    ∃ t, exec (.thi r1 x2 a) s = .next t ∧ SignFlags t (s.reg r1 &&& s.sum a x2) ∧ t.loc = s.loc + 4 ∧
      Ordinary s t [] [] :=
  ⟨_, rfl, signFlags_setLoadCC s _, rfl, flags_ordinary s _ 2 4⟩

/-- STB needs no alignment and writes the one byte it names (R223, 20_memory.md R66). -/
theorem stb_stores (ready : ByteReady s s.obank (s.sum a x2)) :
    ∃ t, exec (.stb r1 x2 a) s = .next t ∧ t.byteAt s.obank (s.sum a x2) = (s.reg r1).extractLsb' 0 8 ∧
      t.cc = s.cc ∧ t.loc = s.loc + 4 ∧ Ordinary s t [] [(s.obank, s.sum a x2)] :=
  ⟨_, attempt_of_ok (writeByte_ready _ ready) _, byteAt_putByte_self s _ _ _, rfl, rfl,
    ordinary_advance (ordinary_putByte s _ _ _ []) 4⟩

end

/-! The statements -/

/-- Settles O19: each is a load of the bitwise result into R1. -/
theorem logical : Obligations.Logical := by
  unfold Obligations.Logical
  intro s r1 r2 x2 a
  refine ⟨?nhr, ?ohr, ?xhr, ?nhi, ?ohi, ?xhi, fun ready => ⟨?nh, ?oh, ?xh⟩⟩
  case nhr | ohr | xhr | nhi | ohi | xhi => exact loadsValue_of_next rfl
  case nh | oh | xh => exact loadsValue_of_next (attempt_operandHalf_ready ready _)

/-- Settles O20: each writes flags alone; the storage forms first read their operand. -/
theorem compareAndTest : Obligations.CompareAndTest := by
  unfold Obligations.CompareAndTest
  intro s r1 r2 x2 a
  refine ⟨?clhr, ?clhi, fun ready => ?clh, fun ready => ?clb, thi_tests s r1 x2 a, ?chr, ?chi, fun ready => ?ch⟩
  case clhr | clhi => exact comparesLogically_of_next rfl
  case clh => exact comparesLogically_of_next (attempt_operandHalf_ready ready _)
  case clb => exact comparesLogically_of_next (attempt_operandByte_ready ready _)
  case chr | chi => exact compares_of_next rfl
  case ch => exact compares_of_next (attempt_operandHalf_ready ready _)

/-- Settles O21: each moves into one register, which for STBR is R2. -/
theorem byteRegisters : Obligations.ByteRegisters := by
  unfold Obligations.ByteRegisters
  intro s r1 r2
  refine ⟨?lbr, movesValue_of_next rfl, movesValue_of_next rfl, rfl, rfl, rfl⟩
  case lbr => exact zextByte_eq_append (lowByte (s.reg r2)) ▸ movesValue_of_next rfl

/-- Settles O22: one byte read or written, at an odd address too. -/
theorem byteStorage : Obligations.ByteStorage := by
  unfold Obligations.ByteStorage
  intro s r1 x2 a2 ready
  refine ⟨?lb, stb_stores ready⟩
  case lb => exact zextByte_eq_append (s.byteAt _ _) ▸ movesValue_of_next (attempt_operandByte_ready ready _)

end Sys2Proof.Proofs
end

section
/-! Shift and rotate (43_shift_rotate.md): the operand shifts in numbers, what a shift or a rotate leaves in the state,
and from that the shift and rotate instructions. -/

namespace Sys2Proof.Proofs

open Sys2Proof.Machine Sys2Proof.Safety

section

variable {w n : Nat} {s t : State} {r1 : Reg} {len : Half} {regs : List Reg} {bytes : List (Bank × Half)}
  {r : Result} {out : Bool}

/-! Shift counts (R253) -/

theorem shiftCount4_eq (s : State) (a : Half) (x2 : Reg) : s.shiftCount4 a x2 = (s.sum a x2).toNat % 16 :=
  BitVec.extractLsb'_toNat 0 4 _

theorem shiftCount5_eq (s : State) (a : Half) (x2 : Reg) : s.shiftCount5 a x2 = (s.sum a x2).toNat % 32 :=
  BitVec.extractLsb'_toNat 0 5 _

/-! Shifted operands in numbers -/

theorem shiftLeftLogical_eq (v : BitVec w) (n : Nat) :
    shiftLeftLogical v n = ⟨BitVec.ofNat w (v.toNat * 2 ^ n), v.getMsbD (n - 1)⟩ := by
  have value : v <<< n = BitVec.ofNat w (v.toNat * 2 ^ n) := by
    rw [← Nat.shiftLeft_eq]
    rfl
  rw [shiftLeftLogical, value]

theorem shiftRightLogical_eq (v : BitVec w) (n : Nat) :
    shiftRightLogical v n = ⟨BitVec.ofNat w (v.toNat / 2 ^ n), v.getMsbD (w - n)⟩ := by
  have value : v >>> n = BitVec.ofNat w (v.toNat / 2 ^ n) := by
    rw [← Nat.shiftRight_eq_div_pow, ← BitVec.toNat_ushiftRight, BitVec.ofNat_toNat, BitVec.setWidth_eq]
  rw [shiftRightLogical, value]

/-- Bit 0 of the source, counted from the left, is the quotient by its weight. -/
theorem msb_toNat_eq_div (v : BitVec w) : v.msb.toNat = v.toNat / 2 ^ (w - 1) := by
  have atMostOne : v.toNat / 2 ^ (w - 1) < 2 := by
    have weight : 2 ^ w ≤ 2 ^ (w - 1) * 2 := by
      rw [← Nat.pow_succ]
      exact Nat.pow_le_pow_right (by decide) (by omega)
    exact Nat.div_lt_of_lt_mul (v.isLt.trans_le weight)
  rw [BitVec.msb_eq_getLsbD_last, BitVec.getLsbD, Nat.toNat_testBit, Nat.mod_eq_of_lt atMostOne]

/-- Only the bits behind bit 0 are shifted, and those that leave at position 1 are lost (R249). -/
theorem shiftLeftArithmetic_eq (v : BitVec w) (n : Nat) :
    shiftLeftArithmetic v n =
      ⟨BitVec.ofNat w (v.toNat / 2 ^ (w - 1) * 2 ^ (w - 1) + v.toNat * 2 ^ n % 2 ^ (w - 1)), v.getMsbD n⟩ := by
  rw [shiftLeftArithmetic, msb_toNat_eq_div, Nat.mod_mul_mod]

/-- Propagating the sign is the quotient rounded down (R251). -/
theorem shiftRightArithmetic_eq (v : BitVec w) (n : Nat) :
    shiftRightArithmetic v n = ⟨BitVec.ofInt w (v.toInt / 2 ^ n), v.getMsbD (w - n)⟩ := by
  have value : v.sshiftRight n = BitVec.ofInt w (v.toInt / 2 ^ n) := by
    rw [BitVec.sshiftRight, Int.shiftRight_eq_div_pow, Int.natCast_pow, Int.cast_ofNat_Int]
  rw [shiftRightArithmetic, value]

theorem rotateLeft_eq (v : BitVec w) (below : n < w) : rotateLeft v n = v.rotateLeft n :=
  (BitVec.rotateLeft_eq_rotateLeftAux_of_lt below).symm

theorem rotateRight_eq (v : BitVec w) (below : n < w) : rotateRight v n = v.rotateRight n :=
  (BitVec.rotateRight_eq_rotateRightAux_of_lt below).symm

/-! Results (R254, R255) -/

theorem ordinary_setShiftCC (h : Ordinary s t regs bytes) (n : Nat) (out : Bool) (v : BitVec w) :
    Ordinary s (t.setShiftCC n out v) regs bytes := by
  unfold State.setShiftCC
  split
  · exact ordinary_drawn (ordinary_setCC h _) 1
  · exact ordinary_setCC h _

theorem shiftInto_shiftsHalf {x : Shifted 16} {v : Half} (next : r = .next (shiftInto len r1 n x s))
    (shifted : x = ⟨v, out⟩) : ShiftsHalf r s r1 n v out len := by
  subst shifted
  obtain ⟨sign, overflow, carry⟩ := setShiftCC_flags (s.setReg r1 v) n out v
  have stored : Ordinary s (s.setReg r1 v) [r1] [] :=
    ordinary_setReg (ordinary_refl s _ _) (List.mem_singleton_self r1) v
  have value : ((s.setReg r1 v).setShiftCC n out v).reg r1 = v := by simp
  have loc : ((s.setReg r1 v).setShiftCC n out v).loc = s.loc := by simp
  exact ⟨_, next, value, carry, overflow, sign, congrArg (· + len) loc,
    ordinary_advance (ordinary_setShiftCC stored n out v) len⟩

theorem shiftPairInto_shiftsFull {x : Shifted 32} {v : Full} (next : r = .next (shiftPairInto r1 n x s))
    (shifted : x = ⟨v, out⟩) : ShiftsFull r s r1 n v out := by
  subst shifted
  obtain ⟨sign, overflow, carry⟩ := setShiftCC_flags (s.setPair r1 v) n out v
  have pair : ((s.setPair r1 v).setShiftCC n out v).pair r1 = v := by
    rw [State.pair, State.setShiftCC_reg, State.setShiftCC_reg]
    exact pair_setPair_self s r1 v
  have loc : ((s.setPair r1 v).setShiftCC n out v).loc = s.loc := by simp
  exact ⟨_, next, pair, carry, overflow, sign, congrArg (· + 4) loc,
    ordinary_advance (ordinary_setShiftCC (ordinary_setPair (ordinary_refl s _ _) v) n out v) 4⟩

theorem setRotateCC_flags (s : State) (v : Full) :
    flagC (s.setRotateCC v) = false ∧ flagV (s.setRotateCC v) = false ∧ SignFlags (s.setRotateCC v) v :=
  ⟨flagC_setResultCC s _ _ _, flagV_setResultCC s _ _ _, signFlags_setResultCC s _ _ _⟩

theorem rotatePairInto_rotates {x v : Full} (next : r = .next (rotatePairInto r1 x s)) (rotated : x = v) :
    ∃ t, r = .next t ∧ t.pair r1 = v ∧ flagC t = false ∧ flagV t = false ∧ SignFlags t v ∧
      t.loc = s.loc + 4 ∧ Ordinary s t [r1, r1 + 1] [] := by
  subst rotated
  obtain ⟨carry, overflow, sign⟩ := setRotateCC_flags (s.setPair r1 x) x
  have pair : (s.setPair r1 x).pair r1 = x := pair_setPair_self s r1 x
  exact ⟨_, next, pair, carry, overflow, sign, rfl,
    ordinary_advance (ordinary_setCC (ordinary_setPair (ordinary_refl s _ _) x) _) 4⟩

end

/-! The statements -/

/-- Settles O23: each writes R1 with its operand shifted by the literal or by the count of the sum. -/
theorem halfwordShifts : Obligations.HalfwordShifts := by
  unfold Obligations.HalfwordShifts
  intro s r1 x2 n a v k
  have count : s.shiftCount4 a x2 = k := shiftCount4_eq s a x2
  rw [← count]
  refine ⟨?slls, ?slhl, ?srls, ?srhl, ?slha, ?srha⟩
  case slls | slhl => exact shiftInto_shiftsHalf rfl (shiftLeftLogical_eq v _)
  case srls | srhl => exact shiftInto_shiftsHalf rfl (shiftRightLogical_eq v _)
  case slha => exact shiftInto_shiftsHalf rfl (shiftLeftArithmetic_eq v _)
  case srha => exact shiftInto_shiftsHalf rfl (shiftRightArithmetic_eq v _)

/-- Settles O24: each writes the pair at an even R1; an odd R1 is refused. -/
theorem fullwordShiftsAndRotates : Obligations.FullwordShiftsAndRotates := by
  unfold Obligations.FullwordShiftsAndRotates
  intro s r1 x2 a v k
  have count : s.shiftCount5 a x2 = k := shiftCount5_eq s a x2
  have below : s.shiftCount5 a x2 < 32 := BitVec.isLt _
  rw [← count]
  refine ⟨fun even => ?pair, fun odd i listed => ?oddPair⟩
  case pair =>
    have run (t : State) : evenPair r1 (.next t) = .next t := evenPair_even even _
    refine ⟨?sll, ?srl, ?sla, ?sra, fun p listed => ?rotate⟩
    case sll => exact shiftPairInto_shiftsFull (run _) (shiftLeftLogical_eq v _)
    case srl => exact shiftPairInto_shiftsFull (run _) (shiftRightLogical_eq v _)
    case sla => exact shiftPairInto_shiftsFull (run _) (shiftLeftArithmetic_eq v _)
    case sra => exact shiftPairInto_shiftsFull (run _) (shiftRightArithmetic_eq v _)
    case rotate =>
      simp only [List.mem_cons, List.not_mem_nil, or_false] at listed
      obtain rfl | rfl := listed
      · exact rotatePairInto_rotates (run _) (rotateLeft_eq v below)
      · exact rotatePairInto_rotates (run _) (rotateRight_eq v below)
  case oddPair =>
    simp only [List.mem_cons, List.not_mem_nil, or_false] at listed
    obtain rfl | rfl | rfl | rfl | rfl | rfl := listed <;> exact evenPair_odd odd _

end Sys2Proof.Proofs
end

section
/-! Branch (44_branch.md): where a branch goes, what a register written on the way leaves alone, and from that the
branch instructions. -/

namespace Sys2Proof.Proofs

open Sys2Proof.Machine Sys2Proof.Safety

section

variable {s t : State} {r1 : Reg} {a len l v : Half} {regs : List Reg} {bytes : List (Bank × Half)} {r : Result}
  {b : Bool} {taken : Prop} [Decidable taken]

/-! Conditions (R278, R285) -/

theorem maskHit_iff (s : State) (m1 : BitVec 4) : s.maskHit m1 = true ↔ m1 &&& s.cc ≠ 0 := bne_iff_ne

theorem not_maskHit_iff (s : State) (m1 : BitVec 4) : (!s.maskHit m1) = true ↔ m1 &&& s.cc = 0 := by
  rw [Bool.not_eq_true', ← Bool.not_eq_true, maskHit_iff, not_not]

theorem greater_iff (a b : Half) : greater a b = true ↔ b.toNat < a.toNat := decide_eq_true_iff

theorem not_greater_iff (a b : Half) : (!greater a b) = true ↔ a.toNat ≤ b.toNat := by
  rw [Bool.not_eq_true', ← Bool.not_eq_true, greater_iff, Nat.not_lt]

/-! Targets (R283) -/

/-- The displacement of a short branch counts halfwords. -/
theorem two_mul_literal (n : BitVec 4) : 2 * literal n = BitVec.ofNat 16 (2 * n.toNat) := by
  rw [literal_eq_ofNat, BitVec.ofNat_mul]
  rfl

theorem shortBackward_eq (s : State) (n : BitVec 4) : s.shortBackward n = s.loc - BitVec.ofNat 16 (2 * n.toNat) :=
  congrArg (s.loc - ·) (two_mul_literal n)

theorem shortForward_eq (s : State) (n : BitVec 4) : s.shortForward n = s.loc + BitVec.ofNat 16 (2 * n.toNat) :=
  congrArg (s.loc + ·) (two_mul_literal n)

/-! Results -/

/-- Taken or not, a branch is one write of the location counter. -/
theorem branch_eq_setLoc (holds : b = true ↔ taken) (s : State) (a len : Half) :
    branch b a len s = .next (s.setLoc (if taken then a else s.loc + len)) := by
  by_cases condition : taken
  · rw [if_pos condition, holds.mpr condition]; rfl
  · rw [if_neg condition, Bool.eq_false_of_not_eq_true (mt holds.mp condition)]; rfl

theorem ordinary_setLoc (h : Ordinary s t regs bytes) (l : Half) : Ordinary s (t.setLoc l) regs bytes := by
  obtain ⟨⟨registers, memory, platform, central, active⟩, control, ⟨pending, answers, requests⟩⟩ := h
  exact ⟨⟨registers, memory, platform, central, active⟩, control, ⟨pending, answers, requests⟩⟩

theorem branchesTo_of_branch (branches : r = branch b a len s) (holds : b = true ↔ taken) :
    BranchesTo r s taken a len :=
  ⟨_, branches.trans (branch_eq_setLoc holds s a len), rfl, rfl, ordinary_setLoc (ordinary_refl s [] []) _⟩

/-- The index branches and the branches that link write R1 and the location counter, and nothing else. -/
theorem setReg_setLoc_writes (next : r = .next ((s.setReg r1 v).setLoc l)) :
    ∃ t, r = .next t ∧ t.reg r1 = v ∧ t.loc = l ∧ t.cc = s.cc ∧ Ordinary s t [r1] [] := by
  have stored : Ordinary s (s.setReg r1 v) [r1] [] :=
    ordinary_setReg (ordinary_refl s _ _) (List.mem_singleton_self r1) v
  exact ⟨_, next, reg_setReg_self s r1 v, rfl, rfl, ordinary_setLoc stored l⟩

theorem atMost_within {max : Nat} (within : r1.val ≤ max) (k : Result) : atMost max r1 k = k := if_pos within

theorem atMost_beyond {max : Nat} (beyond : max < r1.val) (k : Result) :
    atMost max r1 k = .refused .registerBeyondMax := if_neg (Nat.not_le.mpr beyond)

/-- The increment is kept whether or not the branch is taken (R279, R280). -/
theorem indexBranch_writes (next : r = atMost 13 r1 (branch b a 4 (s.setReg r1 v))) (within : r1.val ≤ 13)
    (holds : b = true ↔ taken) :
    ∃ t, r = .next t ∧ t.reg r1 = v ∧ t.loc = (if taken then a else s.loc + 4) ∧ t.cc = s.cc ∧
      Ordinary s t [r1] [] := by
  rw [atMost_within within, branch_eq_setLoc holds] at next
  exact setReg_setLoc_writes next

end

/-! The statements -/

/-- Settles O25: each is one branch, on the mask or on its absence. -/
theorem conditionalBranches : Obligations.ConditionalBranches := by
  unfold Obligations.ConditionalBranches
  intro s m1 n r2 x2 a2
  have hit := maskHit_iff s m1
  have miss := not_maskHit_iff s m1
  rw [← shortBackward_eq, ← shortForward_eq]
  refine ⟨?btbs, ?btfs, ?btcr, ?btc, ?bfbs, ?bffs, ?bfcr, ?bfc⟩
  case btbs | btfs | btcr | btc => exact branchesTo_of_branch rfl hit
  case bfbs | bffs | bfcr | bfc => exact branchesTo_of_branch rfl miss

/-- Settles O26: both count R1 alike and branch on opposite comparisons with the limit. -/
theorem indexBranches : Obligations.IndexBranches := by
  unfold Obligations.IndexBranches
  intro s r1 x2 a2 v limit
  refine ⟨fun within => ⟨?bxh, ?bxle⟩, fun beyond => ⟨atMost_beyond beyond _, atMost_beyond beyond _⟩⟩
  case bxh => exact indexBranch_writes rfl within (greater_iff v limit)
  case bxle => exact indexBranch_writes rfl within (not_greater_iff v limit)

/-- Settles O27: the target, from R2 or from the sum, is that of the state before the link. -/
theorem branchAndLink : Obligations.BranchAndLink := by
  unfold Obligations.BranchAndLink
  intro s r1 r2 x2 a2
  exact ⟨setReg_setLoc_writes rfl, setReg_setLoc_writes rfl⟩

end Sys2Proof.Proofs
end

section
/-! Floating-point words (45_floating_point.md R301 to R304): the value of a word, what a result is by its exponent,
that normalization keeps the value, and from that what a load computes. -/

namespace Sys2Proof.Proofs

open Sys2Proof.Machine Sys2Proof.Safety

/-- The number of a sign and a magnitude, the form of `fpValue` and `alignedValue`. -/
def signedMagnitude (negative : Bool) (n : Nat) : Int := (if negative then -1 else 1) * (n : Int)

/-- Fields that a word can hold. -/
def FieldsFit (x : FpFields) : Prop := x.exponent ≤ 127 ∧ x.fraction < 2 ^ 24

/-- A fraction with `guard` digits to its right, shifted right to exponent `e`. -/
def alignedFraction (guard e : Nat) (x : FpFields) : Nat := x.fraction * 16 ^ guard / 16 ^ (e - x.exponent)

section

variable {w a b : Full} {x : FpResult} {sign : Bool} {e f g n : Nat}

/-! Signed magnitudes -/

@[simp] theorem natAbs_signedMagnitude (sign : Bool) (n : Nat) : (signedMagnitude sign n).natAbs = n := by
  cases sign <;> simp [signedMagnitude]

theorem signedMagnitude_lt_zero (sign : Bool) (positive : 0 < n) : decide (signedMagnitude sign n < 0) = sign := by
  cases sign <;> simp [signedMagnitude, positive]

theorem zero_lt_signedMagnitude (sign : Bool) (positive : 0 < n) : decide (0 < signedMagnitude sign n) = !sign := by
  cases sign <;> simp [signedMagnitude, positive]

theorem signedMagnitude_eq_zero_iff : signedMagnitude sign n = 0 ↔ n = 0 := by
  rw [← Int.natAbs_eq_zero, natAbs_signedMagnitude]

theorem signedMagnitude_mul (sign : Bool) (n m : Nat) :
    signedMagnitude sign (n * m) = signedMagnitude sign n * (m : Int) := by
  rw [signedMagnitude, signedMagnitude, Nat.cast_mul, Int.mul_assoc]

theorem signedMagnitude_not (sign : Bool) (n : Nat) : signedMagnitude (!sign) n = -signedMagnitude sign n := by
  cases sign <;> simp [signedMagnitude]

theorem signedMagnitude_add (sign : Bool) (n m : Nat) :
    signedMagnitude sign (n + m) = signedMagnitude sign n + signedMagnitude sign m := by
  rw [signedMagnitude, Nat.cast_add, Int.mul_add, signedMagnitude, signedMagnitude]

theorem signedMagnitude_sub {m : Nat} (sign : Bool) (ordered : m ≤ n) :
    signedMagnitude sign (n - m) = signedMagnitude sign n - signedMagnitude sign m := by
  rw [eq_sub_iff_add_eq, ← signedMagnitude_add, Nat.sub_add_cancel ordered]

/-! Words (R301, R302) -/

theorem fpValue_eq (w : Full) :
    fpValue w = signedMagnitude w.msb ((fpFields w).fraction * 16 ^ (fpFields w).exponent) := rfl

theorem alignedValue_eq (guard e : Nat) (w : Full) :
    alignedValue guard e w = signedMagnitude w.msb (alignedFraction guard e (fpFields w) * 16 ^ e) := rfl

theorem fieldsFit_fpFields (w : Full) : FieldsFit (fpFields w) :=
  ⟨Nat.le_of_lt_succ (BitVec.isLt _), BitVec.isLt _⟩

theorem toNat_fpWord (sign : Bool) (exponentFits : e ≤ 127) (fractionFits : f < 2 ^ 24) :
    (fpWord sign e f).toNat = sign.toNat * 2 ^ 31 + e * 2 ^ 24 + f := by
  have := sign.toNat_le
  rw [fpWord, BitVec.toNat_ofNat, Nat.mod_eq_of_lt (by omega)]

theorem fpFields_fpWord (sign : Bool) (exponentFits : e ≤ 127) (fractionFits : f < 2 ^ 24) :
    fpFields (fpWord sign e f) = ⟨sign, e, f⟩ := by
  have word := toNat_fpWord sign exponentFits fractionFits
  rw [fpFields, FpFields.mk.injEq, BitVec.msb_eq_decide, BitVec.extractLsb'_toNat, BitVec.extractLsb'_toNat, word,
    Nat.shiftRight_eq_div_pow, Nat.shiftRight_zero]
  refine ⟨?_, by omega, by omega⟩
  cases sign
  · exact decide_eq_false (by rw [Bool.toNat_false]; omega)
  · exact decide_eq_true (by rw [Bool.toNat_true]; omega)

theorem fpAccepted_iff : fpAccepted w = true ↔ w = 0 ∨ 2 ^ 20 ≤ (fpFields w).fraction := by
  simp [fpAccepted]

theorem normalized_of_fpAccepted (accepted : fpAccepted w = true) (nonzero : w ≠ 0) :
    2 ^ 20 ≤ (fpFields w).fraction := (fpAccepted_iff.mp accepted).resolve_left nonzero

theorem fraction_eq_zero_iff (accepted : fpAccepted w = true) : (fpFields w).fraction = 0 ↔ w = 0 := by
  refine ⟨fun zero => ?_, fun zero => zero ▸ rfl⟩
  by_contra nonzero
  have := normalized_of_fpAccepted accepted nonzero
  omega

/-! Results that a word can hold (R304) -/

theorem fpAccepted_of_zero (zero : x.word = 0) : fpAccepted x.word = true := fpAccepted_iff.mpr (.inl zero)

theorem fpAccepted_of_overflows (h : Overflows x sign) : fpAccepted x.word = true := by
  obtain ⟨word, -⟩ := h
  rw [word]
  cases sign <;> decide

theorem fpAccepted_of_holds (h : Holds x sign e f) (normalized : 2 ^ 20 ≤ f) : fpAccepted x.word = true := by
  obtain ⟨fields, -⟩ := h
  exact fpAccepted_iff.mpr (.inr (by rwa [fields]))

theorem fpValue_of_holds (h : Holds x sign e f) : fpValue x.word = signedMagnitude sign (f * 16 ^ e) := by
  obtain ⟨fields, -⟩ := h
  simp only [fpValue, fields, signedMagnitude]

theorem trueZero_fpZero : TrueZero fpZero := ⟨rfl, rfl, rfl, rfl⟩

theorem underflows_fpUnderflow : Underflows fpUnderflow := ⟨rfl, rfl, rfl, rfl⟩

theorem overflows_fpOverflow (sign : Bool) : Overflows (fpOverflow sign) sign :=
  ⟨by cases sign <;> rfl, rfl, rfl, rfl⟩

theorem overflows_fpDeliver {e : Int} (sign : Bool) (above : 127 < e) (f : Nat) :
    Overflows (fpDeliver sign e f) sign := by
  rw [fpDeliver, if_pos above]
  exact overflows_fpOverflow sign

theorem underflows_fpDeliver {e : Int} (sign : Bool) (below : e < 0) (f : Nat) :
    Underflows (fpDeliver sign e f) := by
  rw [fpDeliver, if_neg (by omega), if_pos below]
  exact underflows_fpUnderflow

theorem holds_fpDeliver (sign : Bool) (exponentFits : e ≤ 127) (fractionFits : f < 2 ^ 24) :
    Holds (fpDeliver sign e f) sign e f := by
  rw [fpDeliver, if_neg (by omega), if_neg (by omega)]
  exact ⟨fpFields_fpWord sign exponentFits fractionFits, rfl, rfl, rfl⟩

/-! Normalization (R303) -/

/-- Each shift moves a factor of 16 from the exponent to the fraction. -/
theorem fpNormalize_value (limit fuel : Nat) (e : Int) (f : Nat) :
    ((fpNormalize limit fuel e f).2 : ℚ) * 16 ^ (fpNormalize limit fuel e f).1 = f * 16 ^ e := by
  induction fuel generalizing e f with
  | zero => rfl
  | succ fuel ih =>
    rw [fpNormalize]
    split
    · rw [ih, Nat.cast_mul, mul_assoc, Nat.cast_ofNat, ← zpow_one_add₀ (by norm_num), add_sub_cancel]
    · rfl

theorem fpNormalize_exponent_le (limit fuel : Nat) (e : Int) (f : Nat) : (fpNormalize limit fuel e f).1 ≤ e := by
  induction fuel generalizing e f with
  | zero => exact le_rfl
  | succ fuel ih =>
    rw [fpNormalize]
    split
    · have := ih (e - 1) (f * 16); omega
    · exact le_rfl

/-- With fuel enough, the fraction ends between `limit` and 16 times `limit`. -/
theorem fpNormalize_normalized {limit fuel : Nat} (e : Int) (below : f < 16 * limit) (reaches : limit ≤ f * 16 ^ fuel) :
    limit ≤ (fpNormalize limit fuel e f).2 ∧ (fpNormalize limit fuel e f).2 < 16 * limit := by
  induction fuel generalizing e f with
  | zero => exact ⟨by simpa [fpNormalize] using reaches, below⟩
  | succ fuel ih =>
    rw [fpNormalize]
    split
    case isTrue short =>
      refine ih (e - 1) (by omega) ?_
      rwa [Nat.mul_assoc, ← Nat.pow_succ']
    case isFalse enough => exact ⟨Nat.le_of_not_lt enough, below⟩

/-! Magnitudes by their exponent, in units of `16 ^ (-g)` -/

theorem magnitude_small {e : Int} (below : e < 0) (fractionFits : f < 2 ^ 24)
    (upper : (n : ℚ) < (f + 1) * 16 ^ e * 16 ^ g) : n < 2 ^ 20 * 16 ^ g := by
  have scale : (16 : ℚ) ^ e ≤ 16 ^ (-1 : ℤ) := zpow_le_zpow_right₀ (by norm_num) (by omega)
  have fraction : (f : ℚ) + 1 ≤ 2 ^ 24 := by exact_mod_cast fractionFits
  have : (n : ℚ) < 2 ^ 20 * 16 ^ g := by
    calc (n : ℚ) < (f + 1) * 16 ^ e * 16 ^ g := upper
      _ ≤ 2 ^ 24 * 16 ^ (-1 : ℤ) * 16 ^ g := by gcongr
      _ = 2 ^ 20 * 16 ^ g := by norm_num
  exact_mod_cast this

theorem magnitude_large {e : Int} (above : 127 < e) (normalized : 2 ^ 20 ≤ f)
    (lower : (f : ℚ) * 16 ^ e * 16 ^ g ≤ n) : 2 ^ 24 * 16 ^ 127 * 16 ^ g ≤ n := by
  have scale : (16 : ℚ) ^ (128 : ℤ) ≤ 16 ^ e := zpow_le_zpow_right₀ (by norm_num) (by omega)
  have fraction : (2 : ℚ) ^ 20 ≤ f := by exact_mod_cast normalized
  have : (2 : ℚ) ^ 24 * 16 ^ 127 * 16 ^ g ≤ n := by
    calc (2 : ℚ) ^ 24 * 16 ^ 127 * 16 ^ g = (2 : ℚ) ^ 20 * 16 ^ (128 : ℤ) * 16 ^ g := by norm_num
      _ ≤ (f : ℚ) * 16 ^ e * 16 ^ g := by gcongr
      _ ≤ n := lower
  exact_mod_cast this

theorem magnitude_inRange (exponentFits : e ≤ 127) (normalized : 2 ^ 20 ≤ f) (fractionFits : f < 2 ^ 24)
    (lower : f * 16 ^ e * 16 ^ g ≤ n) (upper : n < (f + 1) * 16 ^ e * 16 ^ g) :
    2 ^ 20 * 16 ^ g ≤ n ∧ n < 2 ^ 24 * 16 ^ 127 * 16 ^ g := by
  constructor
  · refine le_trans (Nat.mul_le_mul_right _ ?_) lower
    exact normalized.trans (Nat.le_mul_of_pos_right f (by positivity))
  · refine upper.trans_le (Nat.mul_le_mul_right _ (Nat.mul_le_mul fractionFits ?_))
    exact Nat.pow_le_pow_right (by decide) exponentFits

theorem magnitude_pos {e : Int} (normalized : 2 ^ 20 ≤ f) (lower : (f : ℚ) * 16 ^ e * 16 ^ g ≤ n) : 0 < n := by
  have fraction : (0 : ℚ) < f := by exact_mod_cast (show 0 < f by omega)
  have : (0 : ℚ) < n := lt_of_lt_of_le (by positivity) lower
  exact_mod_cast this

/-! Load (R308) -/

theorem isLoad_zero (zero : fpValue w = 0) (trueZero : TrueZero x) : IsLoad w x := by
  rw [IsLoad, zero]
  exact ⟨fun _ => trueZero, fun positive => absurd positive (by decide), fun large => absurd large (by decide)⟩

/-- A normalized fraction at an exponent of at most 127 that has the value of `w`. -/
theorem isLoad_fpDeliver {e : Int} (exponentFits : e ≤ 127) (normalized : 2 ^ 20 ≤ f) (fractionFits : f < 2 ^ 24)
    (value : (f : ℚ) * 16 ^ e = ((fpFields w).fraction * 16 ^ (fpFields w).exponent : Nat)) :
    IsLoad w (fpDeliver w.msb e f) := by
  rw [IsLoad, fpValue_eq]
  generalize (fpFields w).fraction * 16 ^ (fpFields w).exponent = n at value
  have lower : (f : ℚ) * 16 ^ e * 16 ^ 0 ≤ n := by rw [pow_zero, mul_one, value]
  have upper : (n : ℚ) < (f + 1) * 16 ^ e * 16 ^ 0 := by
    rw [pow_zero, mul_one, add_one_mul, value]
    exact lt_add_of_pos_right _ (by positivity)
  have positive : 0 < n := magnitude_pos normalized lower
  rw [natAbs_signedMagnitude, signedMagnitude_eq_zero_iff, zero_lt_signedMagnitude _ positive,
    signedMagnitude_lt_zero _ positive]
  refine ⟨fun zero => absurd zero positive.ne', ?_⟩
  rcases lt_or_ge e 0 with below | above
  · have small : n < 2 ^ 20 * 16 ^ 0 := magnitude_small below fractionFits upper
    exact ⟨fun _ _ => underflows_fpDeliver _ below f, fun large => absurd large (by omega)⟩
  · obtain ⟨k, rfl⟩ := Int.eq_ofNat_of_zero_le above
    have exact : f * 16 ^ k = n := by exact_mod_cast value
    have holds := holds_fpDeliver w.msb (Int.ofNat_le.mp exponentFits) fractionFits
    have large : 2 ^ 20 ≤ n := exact ▸ normalized.trans (Nat.le_mul_of_pos_right f (by positivity))
    obtain ⟨-, noFault, greater, less⟩ := id holds
    exact ⟨fun _ small => absurd small (by omega), fun _ => ⟨fpAccepted_of_holds holds normalized,
      exact ▸ fpValue_of_holds holds, noFault, greater, less⟩⟩

theorem isLoad_fpLoadResult (w : Full) : IsLoad w (fpLoadResult w) := by
  have fits : (fpFields w).exponent ≤ 127 ∧ (fpFields w).fraction < 2 ^ 24 := fieldsFit_fpFields w
  by_cases zero : (fpFields w).fraction = 0
  · rw [fpLoadResult, if_pos zero]
    exact isLoad_zero (by simp [fpValue, zero]) trueZero_fpZero
  · rw [fpLoadResult, if_neg zero]
    obtain ⟨normalized, fractionFits⟩ := fpNormalize_normalized (limit := 2 ^ 20) (fuel := 5)
      (fpFields w).exponent fits.2 (by omega)
    refine isLoad_fpDeliver ((fpNormalize_exponent_le _ _ _ _).trans (by exact_mod_cast fits.1)) normalized
      fractionFits ?_
    rw [fpNormalize_value]
    push_cast
    rw [zpow_natCast]

theorem fpAccepted_of_isLoad (h : IsLoad w x) : fpAccepted x.word = true := by
  obtain ⟨zero, small, large⟩ := h
  rcases Nat.eq_zero_or_pos (fpValue w).natAbs with none | positive
  · exact fpAccepted_of_zero (zero (Int.natAbs_eq_zero.mp none)).1
  · rcases Nat.lt_or_ge (fpValue w).natAbs (2 ^ 20) with below | above
    · exact fpAccepted_of_zero (small positive below).1
    · exact (large above).1

/-- G and L of a loaded word tell its sign, on an underflow too. -/
theorem sign_of_isLoad (h : IsLoad w x) : x.g = decide (0 < fpValue x.word) ∧ x.l = decide (fpValue x.word < 0) := by
  obtain ⟨zero, small, large⟩ := h
  rcases Nat.eq_zero_or_pos (fpValue w).natAbs with none | positive
  · obtain ⟨word, -, greater, less⟩ := zero (Int.natAbs_eq_zero.mp none)
    rw [word, greater, less]
    decide
  · rcases Nat.lt_or_ge (fpValue w).natAbs (2 ^ 20) with below | above
    · obtain ⟨word, -, greater, less⟩ := small positive below
      rw [word, greater, less]
      decide
    · obtain ⟨-, value, -, greater, less⟩ := large above
      exact ⟨value ▸ greater, value ▸ less⟩

end

end Sys2Proof.Proofs
end

section
/-! Floating-point arithmetic (45_floating_point.md R317 to R323): alignment and its error, and that add, multiply and
divide keep the leading digits of the exact result, rounded where the rule rounds. -/

namespace Sys2Proof.Proofs

open Sys2Proof.Machine Sys2Proof.Safety

section

variable {w : Full} {a b : FpFields} {x : FpResult} {sign : Bool} {e f g m n : Nat} {t : Int}

/-! Alignment (R321) -/

theorem alignedFraction_lt (h : a.fraction < 2 ^ 24) : alignedFraction g e a < 2 ^ 24 * 16 ^ g :=
  (Nat.div_le_self _ _).trans_lt (Nat.mul_lt_mul_of_pos_right h (by positivity))

/-- Rounding down to a multiple of `16 ^ e` a number that has the factor `16 ^ k`, `k ≤ e`, as aligning does. -/
theorem div_pow_mul_pow {k : Nat} (below : k ≤ e) (m : Nat) :
    m / 16 ^ (e - k) * 16 ^ e + m % 16 ^ (e - k) * 16 ^ k = m * 16 ^ k := by
  have split : 16 ^ e = 16 ^ (e - k) * 16 ^ k := by rw [← Nat.pow_add, Nat.sub_add_cancel below]
  rw [split, ← Nat.mul_assoc, ← Nat.add_mul, Nat.div_add_mod']

theorem fpValue_scaled (w : Full) (g : Nat) :
    fpValue w * 16 ^ g =
      signedMagnitude w.msb ((fpFields w).fraction * 16 ^ g * 16 ^ (fpFields w).exponent) := by
  rw [fpValue_eq, Nat.mul_right_comm, signedMagnitude_mul _ _ (16 ^ g)]
  push_cast
  rfl

/-- Within the guard digits nothing is shifted out. -/
theorem alignedValue_exact (above : (fpFields w).exponent ≤ e) (guarded : e ≤ (fpFields w).exponent + g) :
    alignedValue g e w = fpValue w * 16 ^ g := by
  have kept : (fpFields w).fraction * 16 ^ g % 16 ^ (e - (fpFields w).exponent) = 0 :=
    Nat.mod_eq_zero_of_dvd ((Nat.pow_dvd_pow 16 (by omega)).mul_left _)
  have exact := div_pow_mul_pow above ((fpFields w).fraction * 16 ^ g)
  rw [kept, Nat.zero_mul, Nat.add_zero] at exact
  rw [fpValue_scaled, alignedValue_eq, alignedFraction, exact]

theorem alignedValue_error (above : (fpFields w).exponent ≤ e) :
    (fpValue w * 16 ^ g - alignedValue g e w).natAbs < 16 ^ e := by
  have exact := div_pow_mul_pow above ((fpFields w).fraction * 16 ^ g)
  have dropped : (fpFields w).fraction * 16 ^ g % 16 ^ (e - (fpFields w).exponent) * 16 ^ (fpFields w).exponent <
      16 ^ e := by
    calc _ < 16 ^ (e - (fpFields w).exponent) * 16 ^ (fpFields w).exponent :=
          Nat.mul_lt_mul_of_pos_right (Nat.mod_lt _ (by positivity)) (by positivity)
      _ = 16 ^ e := by rw [← Nat.pow_add, Nat.sub_add_cancel above]
  rw [fpValue_scaled, alignedValue_eq, alignedFraction, ← exact, signedMagnitude_add, add_sub_cancel_left,
    natAbs_signedMagnitude]
  exact dropped

/-! Add and subtract (R321) -/

theorem isSum_zero (trueZero : TrueZero x) : IsSum g 0 x := by
  have notLarge {m : Nat} (positive : 0 < m) : ¬m ≤ (0 : Int).natAbs := Nat.not_le.mpr positive
  exact ⟨fun _ => trueZero, fun large => absurd large (notLarge (by positivity)),
    fun positive => absurd positive (Nat.lt_irrefl 0), fun large => absurd large (notLarge (by positivity))⟩

/-- A normalized fraction at an exponent is the sum's six leading digits. -/
theorem isSum_fpDeliver {e : Int} (normalized : 2 ^ 20 ≤ f) (fractionFits : f < 2 ^ 24)
    (lower : (f : ℚ) * 16 ^ e * 16 ^ g ≤ n) (upper : (n : ℚ) < (f + 1) * 16 ^ e * 16 ^ g) :
    IsSum g (signedMagnitude sign n) (fpDeliver sign e f) := by
  have positive : 0 < n := magnitude_pos normalized lower
  rw [IsSum, natAbs_signedMagnitude, signedMagnitude_eq_zero_iff, signedMagnitude_lt_zero _ positive]
  refine ⟨fun zero => absurd zero positive.ne', ?_⟩
  rcases lt_or_ge e 0 with below | above
  · have small : n < 2 ^ 20 * 16 ^ g := magnitude_small below fractionFits upper
    exact ⟨fun large => absurd large (by omega), fun _ _ => underflows_fpDeliver sign below f,
      fun large => absurd large (by omega)⟩
  rcases le_or_gt e 127 with within | overflow
  · obtain ⟨k, rfl⟩ := Int.eq_ofNat_of_zero_le above
    have exponentFits : k ≤ 127 := Int.ofNat_le.mp within
    have atLeast : f * 16 ^ k * 16 ^ g ≤ n := by exact_mod_cast lower
    have lessThan : n < (f + 1) * 16 ^ k * 16 ^ g := by exact_mod_cast upper
    obtain ⟨large, small⟩ := magnitude_inRange exponentFits normalized fractionFits atLeast lessThan
    have holds := holds_fpDeliver sign exponentFits fractionFits
    exact ⟨fun beyond => absurd beyond (by omega), fun _ below => absurd below (by omega),
      fun _ _ => ⟨k, f, exponentFits, normalized, fractionFits, atLeast, lessThan, holds⟩⟩
  · have large : 2 ^ 24 * 16 ^ 127 * 16 ^ g ≤ n := magnitude_large overflow normalized lower
    exact ⟨fun _ => overflows_fpDeliver sign overflow f, fun _ small => absurd small (by omega),
      fun _ small => absurd small (by omega)⟩

theorem fpAlignedSum_eq (g : Nat) (a b : FpFields) :
    let e := max a.exponent b.exponent
    let p := alignedFraction g e a
    let q := alignedFraction g e b
    fpAlignedSum g a b =
      if a.sign = b.sign then (a.sign, e, p + q)
      else if q ≤ p then (a.sign, e, p - q) else (b.sign, e, q - p) := rfl

/-- The aligned sum is the algebraic sum of the aligned fractions. -/
theorem fpAlignedSum_spec (g : Nat) (aFits : FieldsFit a) (bFits : FieldsFit b)
    (common : max a.exponent b.exponent = e) :
    ∃ sign m, fpAlignedSum g a b = (sign, e, m) ∧ m < 2 ^ 25 * 16 ^ g ∧
      signedMagnitude sign m =
        signedMagnitude a.sign (alignedFraction g e a) + signedMagnitude b.sign (alignedFraction g e b) := by
  have aBound : alignedFraction g e a < 2 ^ 24 * 16 ^ g := alignedFraction_lt aFits.2
  have bBound : alignedFraction g e b < 2 ^ 24 * 16 ^ g := alignedFraction_lt bFits.2
  simp only [fpAlignedSum_eq, common]
  by_cases same : a.sign = b.sign
  · rw [if_pos same]
    exact ⟨_, _, rfl, by omega, same ▸ signedMagnitude_add _ _ _⟩
  · have opposite : b.sign = !a.sign := Bool.eq_not.mpr (Ne.symm same)
    rw [if_neg same, opposite, signedMagnitude_not]
    split
    case isTrue ordered => exact ⟨_, _, rfl, by omega, signedMagnitude_sub _ ordered⟩
    case isFalse ordered =>
      refine ⟨_, _, rfl, by omega, ?_⟩
      rw [signedMagnitude_not, signedMagnitude_sub _ (Nat.le_of_not_le ordered), neg_sub, sub_eq_add_neg]

/-- The aligned sum of two operands as a number, in the terms of `IsSum`. -/
def alignedSum (g : Nat) (a b : FpFields) : Int :=
  let e := max a.exponent b.exponent
  signedMagnitude a.sign (alignedFraction g e a * 16 ^ e) + signedMagnitude b.sign (alignedFraction g e b * 16 ^ e)

/-- The digits that weigh less than `c` are dropped from `m`. -/
theorem isSum_truncated {e : Int} {c : Nat} {z : ℚ} (positive : 0 < z) (value : (n : ℚ) = m * z)
    (scale : z * c = 16 ^ e * 16 ^ g) (normalized : 2 ^ 20 * c ≤ m) (fits : m < 2 ^ 24 * c) :
    IsSum g (signedMagnitude sign n) (fpDeliver sign e (m / c)) := by
  have digit : 0 < c := by omega
  have kept : ((m / c : Nat) : ℚ) * c ≤ m := by exact_mod_cast Nat.div_mul_le_self m c
  have dropped : (m : ℚ) < ((m / c : Nat) + 1) * c := by
    exact_mod_cast (Nat.div_lt_iff_lt_mul digit).mp (Nat.lt_succ_self (m / c))
  refine isSum_fpDeliver ((Nat.le_div_iff_mul_le digit).mpr normalized) ((Nat.div_lt_iff_lt_mul digit).mpr fits) ?_ ?_
  · rw [value, mul_assoc, ← scale, mul_left_comm, mul_comm (m : ℚ)]
    gcongr
  · rw [value, mul_assoc, ← scale, mul_left_comm, mul_comm (m : ℚ)]
    gcongr

theorem isSum_fpAdd (g : Nat) (aFits : FieldsFit a) (bFits : FieldsFit b) :
    IsSum g (alignedSum g a b) (fpAdd g a b) := by
  obtain ⟨sign, m, aligned, bound, value⟩ := fpAlignedSum_spec g aFits bFits rfl
  have sum : alignedSum g a b = signedMagnitude sign (m * 16 ^ max a.exponent b.exponent) := by
    rw [alignedSum, signedMagnitude_mul, signedMagnitude_mul, signedMagnitude_mul, value, Int.add_mul]
  simp only [fpAdd, aligned, sum]
  generalize max a.exponent b.exponent = e
  by_cases zero : m = 0
  · rw [if_pos zero, zero, Nat.zero_mul, signedMagnitude_eq_zero_iff.mpr rfl]
    exact isSum_zero trueZero_fpZero
  rw [if_neg zero]
  by_cases carry : 2 ^ 24 * 16 ^ g ≤ m
  · rw [if_pos carry, Nat.div_div_eq_div_mul]
    refine isSum_truncated (z := 16 ^ e) (by positivity) (by push_cast; rfl) ?_ (by omega) (by omega)
    rw [zpow_add_one₀ (by norm_num), zpow_natCast]
    push_cast
    ring
  · have reaches : 2 ^ 20 * 16 ^ g ≤ m * 16 ^ (5 + g) := by
      rw [Nat.pow_add, show 16 ^ 5 = 2 ^ 20 by norm_num]
      exact Nat.le_mul_of_pos_left _ (Nat.pos_of_ne_zero zero)
    obtain ⟨normalized, fits⟩ := fpNormalize_normalized (e : Int) (by omega) reaches
    rw [if_neg carry]
    refine isSum_truncated (z := 16 ^ (fpNormalize (2 ^ 20 * 16 ^ g) (5 + g) e m).1) (by positivity) ?_
      (by push_cast; rfl) normalized (by omega)
    rw [fpNormalize_value]
    push_cast
    rw [zpow_natCast]

theorem fpAccepted_of_isSum (h : IsSum g t x) : fpAccepted x.word = true := by
  obtain ⟨zero, overflow, underflow, inRange⟩ := h
  by_cases none : t = 0
  · exact fpAccepted_of_zero (zero none).1
  by_cases large : 2 ^ 24 * 16 ^ 127 * 16 ^ g ≤ t.natAbs
  · exact fpAccepted_of_overflows (overflow large)
  by_cases small : t.natAbs < 2 ^ 20 * 16 ^ g
  · exact fpAccepted_of_zero (underflow (Int.natAbs_pos.mpr none) small).1
  obtain ⟨e, f, -, normalized, -, -, -, holds⟩ := inRange (Nat.le_of_not_lt small) (Nat.lt_of_not_le large)
  exact fpAccepted_of_holds holds normalized

theorem alignedSum_fpFields (g : Nat) (u w : Full) :
    alignedSum g (fpFields u) (fpFields w) =
      alignedValue g (commonExponent u w) u + alignedValue g (commonExponent u w) w := rfl

theorem alignedSum_invert (g : Nat) (u w : Full) :
    alignedSum g (fpFields u) { fpFields w with sign := !(fpFields w).sign } =
      alignedValue g (commonExponent u w) u - alignedValue g (commonExponent u w) w := by
  rw [sub_eq_add_neg, alignedValue_eq _ _ w, ← signedMagnitude_not]
  rfl

end

section

variable {a b : Full} {x : FpResult} {rule : Rounding} {sign : Bool} {e q n d : Nat}

/-! Rounding (R323) -/

theorem fpRounding_halfUp (step : RoundStep) (halfOrMore : Bool) (q : Nat) :
    fpRounding .halfUp step halfOrMore q = if halfOrMore then q + 1 else q := by
  cases halfOrMore <;> rfl

/-- A platform's own rounding stays within one unit of the truncated fraction, and normalized. -/
theorem fpRounding_supplied (step : RoundStep) (halfOrMore : Bool) (normalized : 2 ^ 20 ≤ q) :
    2 ^ 20 ≤ fpRounding .supplied step halfOrMore q ∧ q ≤ fpRounding .supplied step halfOrMore q + 1 ∧
      fpRounding .supplied step halfOrMore q ≤ q + 1 := by
  cases step <;> simp only [fpRounding] <;> omega

theorem fpRounding_le (rule : Rounding) (step : RoundStep) (halfOrMore : Bool) (normalized : 2 ^ 20 ≤ q) :
    fpRounding rule step halfOrMore q ≤ q + 1 := by
  cases rule with
  | halfUp =>
    rw [fpRounding_halfUp]
    split <;> omega
  | supplied => exact (fpRounding_supplied step halfOrMore normalized).2.2

/-- A rounded fraction is delivered with its carry counted into the exponent. -/
theorem fpDeliver_fpRounded (sign : Bool) (e : Nat) {f : Nat} (fits : f ≤ 2 ^ 24) :
    let r := if f = 2 ^ 24 then (e + 1, 2 ^ 20) else (e, f)
    let y := fpDeliver sign (fpRounded f e).1 (fpRounded f e).2
    if 127 < r.1 then Overflows y sign else Holds y sign r.1 r.2 := by
  intro r y
  have rounded : fpRounded f e = ((r.1 : Int), r.2) := by
    simp only [fpRounded, r]
    split <;> rfl
  have fraction : r.2 < 2 ^ 24 := by
    simp only [r]
    split <;> simp only <;> omega
  simp only [y, rounded]
  split
  case isTrue above => exact overflows_fpDeliver sign (by omega) r.2
  case isFalse within => exact holds_fpDeliver sign (by omega) fraction

/-- A quotient `m / c` that stands for `n / d` at exponent `e`, rounded and delivered. -/
theorem rounds_fpDeliver {m c : Nat} (step : RoundStep) (positive : 0 < d) (value : n * c = m * (16 ^ e * d))
    (normalized : 2 ^ 20 * c ≤ m) (fits : m < 2 ^ 24 * c) :
    let r := fpRounded (fpRounding rule step (decide (c ≤ 2 * (m % c))) (m / c)) e
    Rounds rule n d sign (fpDeliver sign r.1 r.2) := by
  have digit : 0 < c := by omega
  have scale (y z : Nat) : y * (16 ^ e * d) ≤ z * n ↔ y * c ≤ z * m := by
    have factor : 0 < 16 ^ e * d := Nat.mul_pos (by positivity) positive
    rw [← Nat.mul_le_mul_right_iff digit, Nat.mul_assoc z, value, ← Nat.mul_assoc z, Nat.mul_right_comm,
      Nat.mul_le_mul_right_iff factor]
  have qNormalized : 2 ^ 20 ≤ m / c := (Nat.le_div_iff_mul_le digit).mpr normalized
  have qFits : m / c < 2 ^ 24 := (Nat.div_lt_iff_lt_mul digit).mpr fits
  have half : c ≤ 2 * (m % c) ↔ (2 * (m / c) + 1) * 16 ^ e * d ≤ 2 * n := by
    have parts : m / c * c + m % c = m := Nat.div_add_mod' m c
    rw [Nat.mul_assoc, scale, Nat.add_mul, Nat.mul_assoc]
    omega
  refine ⟨e, m / c, _, qNormalized, qFits, ?lower, ?upper, ?halfUp, ?supplied, fpDeliver_fpRounded sign e ?_⟩
  case lower =>
    rw [Nat.mul_assoc, ← Nat.one_mul n, scale, Nat.one_mul]
    exact Nat.div_mul_le_self m c
  case upper =>
    rw [Nat.mul_assoc, ← Nat.one_mul n, ← Nat.not_le, scale, Nat.one_mul, Nat.not_le]
    exact (Nat.div_lt_iff_lt_mul digit).mp (Nat.lt_succ_self (m / c))
  case halfUp =>
    rintro rfl
    simp only [fpRounding_halfUp, decide_eq_true_eq, half]
  case supplied =>
    rintro rfl
    exact fpRounding_supplied step _ qNormalized
  exact (fpRounding_le rule step _ qNormalized).trans qFits

theorem fpAccepted_of_rounds (h : Rounds rule n d sign x) : fpAccepted x.word = true := by
  obtain ⟨e, q, f, normalized, -, -, -, halfUp, supplied, delivered⟩ := h
  have fraction : 2 ^ 20 ≤ f := by
    cases rule with
    | halfUp => rw [halfUp rfl]; split <;> omega
    | supplied => exact (supplied rfl).1
  generalize carried : (if f = 2 ^ 24 then (e + 1, 2 ^ 20) else (e, f)) = r at delivered
  have kept : 2 ^ 20 ≤ r.2 := by
    rw [← carried]
    split
    · exact le_rfl
    · exact fraction
  dsimp only at delivered
  split at delivered
  · exact fpAccepted_of_overflows delivered
  · exact fpAccepted_of_holds delivered kept

/-! Multiply and divide (R317, R319) -/

section

variable {u w : FpFields} {own : Nat → RoundStep} {own3 : Nat → Nat → Nat → RoundStep} {k m c : Nat}

theorem fpMul_zero (zero : u.fraction = 0 ∨ w.fraction = 0) : fpMul rule own u w = fpZero := if_pos zero

theorem fpMul_overflow (nonzero : ¬(u.fraction = 0 ∨ w.fraction = 0)) (above : 191 < u.exponent + w.exponent) :
    fpMul rule own u w = fpOverflow (u.sign ^^ w.sign) := by
  rw [fpMul, if_neg nonzero, if_pos (by omega)]

/-- The exponent is negative before the multiplication, or after the leading zero digit of the product is removed. -/
theorem fpMul_underflow (nonzero : ¬(u.fraction = 0 ∨ w.fraction = 0))
    (below : u.exponent + w.exponent < 64 ∨ u.exponent + w.exponent = 64 ∧ u.fraction * w.fraction < 2 ^ 44) :
    fpMul rule own u w = fpUnderflow := by
  rw [fpMul, if_neg nonzero, if_neg (by omega)]
  by_cases first : u.exponent + w.exponent < 64
  · rw [if_pos (by omega)]
  · obtain ⟨exponents, product⟩ := below.resolve_left first
    rw [if_neg (by omega)]
    simp only [if_pos product]
    rw [if_pos (by omega)]

/-- `m` is the product without a leading zero digit, `k` its exponent. -/
theorem fpMul_rounded (nonzero : ¬(u.fraction = 0 ∨ w.fraction = 0)) (within : u.exponent + w.exponent ≤ 191)
    (product : 2 ^ 44 ≤ u.fraction * w.fraction ∧ u.exponent + w.exponent = k + 64 ∧ m = u.fraction * w.fraction ∨
      u.fraction * w.fraction < 2 ^ 44 ∧ u.exponent + w.exponent = k + 65 ∧ m = u.fraction * w.fraction * 16) :
    let r := fpRounded (fpRounding rule (own m) (decide (2 ^ 24 ≤ 2 * (m % 2 ^ 24))) (m / 2 ^ 24)) k
    fpMul rule own u w = fpDeliver (u.sign ^^ w.sign) r.1 r.2 := by
  have half : decide (2 ^ 23 ≤ m % 2 ^ 24) = decide (2 ^ 24 ≤ 2 * (m % 2 ^ 24)) := decide_eq_decide.mpr (by omega)
  rw [fpMul, if_neg nonzero, if_neg (by omega), if_neg (by omega)]
  obtain ⟨large, exponents, rfl⟩ | ⟨small, exponents, rfl⟩ := product
  · have exponent : (u.exponent : Int) + w.exponent - 64 = k := by omega
    simp only [if_neg (Nat.not_lt.mpr large), exponent, half]
    rw [if_neg (by omega)]
  · have exponent : (u.exponent : Int) + w.exponent - 64 - 1 = k := by omega
    simp only [if_pos small, exponent, half]
    rw [if_neg (by omega)]

theorem fpDiv_zero (zero : u.fraction = 0) : fpDiv rule own3 u w = fpZero := if_pos zero

theorem fpDiv_overflow (nonzero : u.fraction ≠ 0) (above : w.exponent + 63 < u.exponent) :
    fpDiv rule own3 u w = fpOverflow (u.sign ^^ w.sign) := by
  rw [fpDiv, if_neg nonzero, if_pos (by omega)]

theorem fpDiv_underflow (nonzero : u.fraction ≠ 0) (below : u.exponent + 64 < w.exponent) :
    fpDiv rule own3 u w = fpUnderflow := by
  rw [fpDiv, if_neg nonzero, if_neg (by omega), if_pos (by omega)]

/-- `m` is the dividend shifted so that the quotient has six digits, `k` the quotient's exponent. -/
theorem fpDiv_rounded (nonzero : u.fraction ≠ 0) (above : w.exponent ≤ u.exponent + 64)
    (within : u.exponent ≤ w.exponent + 63)
    (dividend : w.fraction ≤ u.fraction ∧ u.exponent + 65 = k + w.exponent ∧ m = u.fraction * 2 ^ 20 ∨
      u.fraction < w.fraction ∧ u.exponent + 64 = k + w.exponent ∧ m = u.fraction * 2 ^ 24) :
    let r := fpRounded (fpRounding rule (own3 (m / w.fraction) (m % w.fraction) w.fraction)
      (decide (w.fraction ≤ 2 * (m % w.fraction))) (m / w.fraction)) k
    fpDiv rule own3 u w = fpDeliver (u.sign ^^ w.sign) r.1 r.2 := by
  rw [fpDiv, if_neg nonzero, if_neg (by omega), if_neg (by omega)]
  obtain ⟨large, exponents, rfl⟩ | ⟨small, exponents, rfl⟩ := dividend
  · have exponent : (u.exponent : Int) - w.exponent + 64 + 1 = k := by omega
    simp only [if_pos large, exponent]
  · have exponent : (u.exponent : Int) - w.exponent + 64 = k := by omega
    simp only [if_neg (Nat.not_le.mpr small), exponent]

end

/-- When a product of normalized fractions reaches the least normalized value `2 ^ 20` times `2 ^ 24 * 16 ^ 64`. -/
theorem product_large_iff {p e : Nat} (low : 2 ^ 40 ≤ p) (high : p < 2 ^ 48) :
    2 ^ 20 * (2 ^ 24 * 16 ^ 64) ≤ p * 16 ^ e ↔ 2 ^ 44 ≤ p ∧ 64 ≤ e ∨ 65 ≤ e := by
  have scaled {j k : Nat} (ordered : j ≤ k) : p * 16 ^ j ≤ p * 16 ^ k :=
    Nat.mul_le_mul_left p (Nat.pow_le_pow_right (by decide) ordered)
  constructor
  · intro large
    by_contra small
    rcases Nat.lt_or_ge p (2 ^ 44) with fraction | fraction
    · have := scaled (show e ≤ 64 by omega)
      omega
    · have := scaled (show e ≤ 63 by omega)
      omega
  · rintro (⟨fraction, exponent⟩ | exponent)
    · exact le_trans (by omega) (scaled exponent)
    · exact le_trans (by omega) (scaled exponent)

theorem isProduct_fpMul (rule : Rounding) (own : Nat → RoundStep) (aAccepted : fpAccepted a = true)
    (bAccepted : fpAccepted b = true) : IsProduct rule a b (fpMul rule own (fpFields a) (fpFields b)) := by
  have aZero := fraction_eq_zero_iff aAccepted
  have bZero := fraction_eq_zero_iff bAccepted
  refine ⟨fun zero => ?zero, fun aNonzero bNonzero => ?nonzero⟩
  case zero =>
    rw [fpMul_zero (by rwa [aZero, bZero])]
    exact trueZero_fpZero
  case nonzero =>
    have nonzero : ¬((fpFields a).fraction = 0 ∨ (fpFields b).fraction = 0) := by
      rw [aZero, bZero]
      exact not_or.mpr ⟨aNonzero, bNonzero⟩
    have low : 2 ^ 20 * 2 ^ 20 ≤ (fpFields a).fraction * (fpFields b).fraction :=
      Nat.mul_le_mul (normalized_of_fpAccepted aAccepted aNonzero) (normalized_of_fpAccepted bAccepted bNonzero)
    have high : (fpFields a).fraction * (fpFields b).fraction < 2 ^ 24 * 2 ^ 24 :=
      Nat.mul_lt_mul'' (fieldsFit_fpFields a).2 (fieldsFit_fpFields b).2
    have large_iff := product_large_iff (e := (fpFields a).exponent + (fpFields b).exponent) low high
    refine ⟨fun above => ?overflow, fun small => ?underflow, fun within large => ?rounds⟩
    case overflow =>
      rw [fpMul_overflow nonzero above]
      exact overflows_fpOverflow _
    case underflow =>
      have below := mt large_iff.mpr (Nat.not_le.mpr small)
      rw [fpMul_underflow nonzero (by omega)]
      exact underflows_fpUnderflow
    case rounds =>
      have range := large_iff.mp large
      rcases Nat.lt_or_ge ((fpFields a).fraction * (fpFields b).fraction) (2 ^ 44) with less | notLess
      · obtain ⟨k, exponents⟩ := Nat.exists_eq_add_of_le' (range.resolve_left (by omega))
        rw [fpMul_rounded nonzero within (.inr ⟨less, exponents, rfl⟩)]
        refine rounds_fpDeliver _ (by positivity) ?_ (by omega) (by omega)
        rw [exponents, Nat.pow_add]
        ring
      · obtain ⟨k, exponents⟩ := Nat.exists_eq_add_of_le'
          (show 64 ≤ (fpFields a).exponent + (fpFields b).exponent by omega)
        rw [fpMul_rounded nonzero within (.inl ⟨notLess, exponents, rfl⟩)]
        refine rounds_fpDeliver _ (by positivity) ?_ (by omega) (by omega)
        rw [exponents, Nat.pow_add]
        ring

theorem isQuotient_fpDiv (rule : Rounding) (own : Nat → Nat → Nat → RoundStep) (aAccepted : fpAccepted a = true)
    (bAccepted : fpAccepted b = true) (nonzero : b ≠ 0) :
    IsQuotient rule a b (fpDiv rule own (fpFields a) (fpFields b)) := by
  have aZero := fraction_eq_zero_iff aAccepted
  have divisor := normalized_of_fpAccepted bAccepted nonzero
  have aFits := (fieldsFit_fpFields a).2
  have bFits := (fieldsFit_fpFields b).2
  refine ⟨fun zero => ?zero, fun aNonzero => ?nonzero⟩
  case zero =>
    rw [fpDiv_zero (aZero.mpr zero)]
    exact trueZero_fpZero
  case nonzero =>
    have dividend := mt aZero.mp aNonzero
    refine ⟨fun above => ?overflow, fun below => ?underflow, fun within above => ?rounds⟩
    case overflow =>
      rw [fpDiv_overflow dividend above]
      exact overflows_fpOverflow _
    case underflow =>
      rw [fpDiv_underflow dividend below]
      exact underflows_fpUnderflow
    case rounds =>
      have normalized := normalized_of_fpAccepted aAccepted aNonzero
      have positive : 0 < (fpFields b).fraction * 16 ^ (fpFields b).exponent := Nat.mul_pos (by omega) (by positivity)
      rcases Nat.lt_or_ge (fpFields a).fraction (fpFields b).fraction with less | notLess
      · obtain ⟨k, exponents⟩ := Nat.exists_eq_add_of_le' above
        rw [fpDiv_rounded dividend above within (.inr ⟨less, exponents, rfl⟩)]
        refine rounds_fpDeliver _ positive ?_ (by omega) (by omega)
        rw [exponents, Nat.pow_add]
        ring
      · obtain ⟨k, exponents⟩ := Nat.exists_eq_add_of_le' (above.trans (Nat.le_succ _))
        rw [fpDiv_rounded dividend above within (.inl ⟨notLess, exponents, rfl⟩)]
        refine rounds_fpDeliver _ positive ?_ (by omega) (by omega)
        have shifted : 16 * 16 ^ ((fpFields a).exponent + 64) = 16 ^ k * 16 ^ (fpFields b).exponent := by
          rw [← Nat.pow_succ', exponents, Nat.pow_add]
        linear_combination (fpFields a).fraction * 2 ^ 20 * (fpFields b).fraction * shifted

theorem fpAccepted_of_isProduct (h : IsProduct rule a b x) : fpAccepted x.word = true := by
  obtain ⟨zero, nonzero⟩ := h
  by_cases factors : a = 0 ∨ b = 0
  · exact fpAccepted_of_zero (zero factors).1
  obtain ⟨overflow, underflow, rounds⟩ := nonzero (fun h => factors (.inl h)) (fun h => factors (.inr h))
  rcases Nat.lt_or_ge 191 ((fpFields a).exponent + (fpFields b).exponent) with above | within
  · exact fpAccepted_of_overflows (overflow above)
  rcases lt_or_ge ((fpFields a).fraction * (fpFields b).fraction *
      16 ^ ((fpFields a).exponent + (fpFields b).exponent)) (2 ^ 20 * (2 ^ 24 * 16 ^ 64)) with below | large
  · exact fpAccepted_of_zero (underflow below).1
  · exact fpAccepted_of_rounds (rounds within large)

theorem fpAccepted_of_isQuotient (h : IsQuotient rule a b x) : fpAccepted x.word = true := by
  obtain ⟨zero, nonzero⟩ := h
  by_cases dividend : a = 0
  · exact fpAccepted_of_zero (zero dividend).1
  obtain ⟨overflow, underflow, rounds⟩ := nonzero dividend
  rcases Nat.lt_or_ge ((fpFields b).exponent + 63) (fpFields a).exponent with above | within
  · exact fpAccepted_of_overflows (overflow above)
  rcases Nat.lt_or_ge ((fpFields a).exponent + 64) (fpFields b).exponent with below | large
  · exact fpAccepted_of_zero (underflow below).1
  · exact fpAccepted_of_rounds (rounds within large)

end

end Sys2Proof.Proofs
end

section
/-! Floating point (45_floating_point.md): how the operands reach a floating-point instruction, what delivering a result
leaves in the state, and from that the floating-point instructions. -/

namespace Sys2Proof.Proofs

open Sys2Proof.Machine Sys2Proof.Safety

section

variable {s t : State} {r1 r2 x2 : Reg} {m len : Half} {a1 a2 : BitVec 18} {a b w : Full} {x : FpResult} {c : Bool}
  {n : Nat} {r : Result} {P : FpResult → Prop} {i add sub mul div : Instr}

/-! Operands (R307) -/

theorem withFpr_ready (ready : FprReady s r1 a1) (k : BitVec 18 → Result) : withFpr s r1 k = k a1 := by
  rw [withFpr, ready.1]

theorem withFpr_invalid (invalid : s.platform.fprAddress[r1.val] = none) (k : BitVec 18 → Result) :
    withFpr s r1 k = .refused .fprInvalid := by
  rw [withFpr, invalid]

/-- A refusal behind a register number is a refusal whether or not that number is valid. -/
theorem withFpr_refused {k : BitVec 18 → Result} (refused : ∀ a, k a = .refused .fprInvalid) :
    withFpr s r1 k = .refused .fprInvalid := by
  unfold withFpr
  split
  · exact refused _
  · rfl

theorem fpRegisters_ready (first : FprReady s r1 a1) (second : FprReady s r2 a2)
    (k : BitVec 18 → Full → Full → Result) : fpRegisters r1 r2 s k = k a1 (fprWord s a1) (fprWord s a2) := by
  rw [fpRegisters, withFpr_ready first, withFpr_ready second, attempt_readFpr_ready first, attempt_readFpr_ready second]

theorem attempt_operandFull_ready (ready : FullReady s s.obank (s.sum m x2)) (k : Full → Result) :
    attempt (s.operandFull m x2) k = k (s.fullAt s.obank (s.sum m x2)) :=
  attempt_of_ok (readFull_ready ready) k

theorem fpStorage_ready (first : FprReady s r1 a1) (second : FullReady s s.obank (s.sum m x2))
    (k : BitVec 18 → Full → Full → Result) :
    fpStorage r1 x2 m s k = k a1 (fprWord s a1) (s.fullAt s.obank (s.sum m x2)) := by
  rw [fpStorage, withFpr_ready first, attempt_readFpr_ready first, attempt_operandFull_ready second]

theorem fpRegisters_refused (invalid : s.platform.fprAddress[r2.val] = none)
    (k : BitVec 18 → Full → Full → Result) : fpRegisters r1 r2 s k = .refused .fprInvalid :=
  withFpr_refused fun _ => withFpr_invalid invalid _

/-! Delivery (R304, R306) -/

theorem ordinary_putFull (s : State) (b : Bank) (e : Half) (v : Full) (regs : List Reg) :
    Ordinary s (s.putFull b e v) regs (fullBytes b e) :=
  ⟨⟨fun _ _ => rfl, fun _ _ => byteAt_putFull_of_notMem s v, rfl, rfl, rfl⟩, rfl, ⟨rfl, rfl, rfl⟩⟩

/-- Free values drawn on the way to a result are no part of it; the fault is raised with the result delivered. -/
theorem fpResultInto_delivered (ready : FprReady s r1 a1) (len : Half) (c : Bool) (x : FpResult) (n : Nat) :
    ∃ u, Delivered s u a1 x ∧ u.loc = s.loc ∧ flagC u = c ∧
      fpResultInto len a1 c x (s.drawn n) =
        if x.v && s.fpe then raise .floatingPointFault len u else .next (u.advance len) := by
  let u := ((s.drawn n).putFull (a1.extractLsb' 16 2) (a1.extractLsb' 0 16) x.word).setCC (ccOf c x.v x.g x.l)
  have runs : fpResultInto len a1 c x (s.drawn n) = fpEnd len x.v u :=
    attempt_of_ok (writeFull_ready (s := s.drawn n) x.word ((fullReady_congr rfl _ _).mpr ready.2)) _
  obtain ⟨carry, overflow, greater, less⟩ := ccOf_getMsbD c x.v x.g x.l
  refine ⟨u, ⟨?word, overflow, greater, less, ?frame⟩, rfl, carry, runs⟩
  case word => exact (State.setCC_fullAt ..).trans (fullAt_putFull_self ..)
  case frame => exact ordinary_of_drawn (ordinary_setCC (ordinary_putFull (s.drawn n) _ _ _ []) _)

theorem delivered_advance (h : Delivered s t a1 x) (len : Half) : Delivered s (t.advance len) a1 x := by
  obtain ⟨word, overflow, greater, less, ordinary⟩ := h
  exact ⟨word, overflow, greater, less, ordinary_advance ordinary len⟩

theorem delivers_of_fpResultInto (ready : FprReady s r1 a1) (runs : r = fpResultInto len a1 c x (s.drawn n)) :
    Delivers r s a1 x len := by
  obtain ⟨u, delivered, loc, -, ends⟩ := fpResultInto_delivered ready len c x n
  rw [Delivers]
  split
  case isTrue fault => exact ⟨u, delivered, loc, runs.trans (ends.trans (if_pos fault))⟩
  case isFalse noFault =>
    exact ⟨u.advance len, runs.trans (ends.trans (if_neg noFault)), delivered_advance delivered len,
      congrArg (· + len) loc⟩

theorem yields_of_delivers (delivers : Delivers r s a1 x len) (result : P x) : Yields r s a1 P len := by
  refine ⟨fun disabled => ?_, fun _ => ⟨x, result, delivers⟩⟩
  rw [Delivers, if_neg (by simp [disabled])] at delivers
  obtain ⟨t, next, delivered, loc⟩ := delivers
  exact ⟨t, x, next, result, delivered, loc⟩

theorem yields_of_fpResultInto (ready : FprReady s r1 a1) (runs : r = fpResultInto len a1 c x (s.drawn n))
    (result : P x) : Yields r s a1 P len :=
  yields_of_delivers (delivers_of_fpResultInto ready runs) result

/-! Operands that are not normalized (R302) -/

theorem unnormalized_refused (policy : s.platform.undefined = .refused) (k : Result) :
    unnormalized s k = .refused .fpUnnormalized := if_pos policy

theorem unnormalized_goesOn (policy : s.platform.undefined = .goesOn) (k : Result) : unnormalized s k = k :=
  if_neg (by simp [policy])

theorem fpUndefined_runsOn (ready : FprReady s r1 a1) (policy : s.platform.undefined = .goesOn) (len : Half) :
    RunsOn (fpUndefined len a1 s) s a1 len := by
  have loaded := isLoad_fpLoadResult (Config.freeFull (s.draws + 2))
  have accepted := fpAccepted_of_isLoad loaded
  obtain ⟨greater, less⟩ := sign_of_isLoad loaded
  exact yields_of_fpResultInto ready (unnormalized_goesOn policy _) ⟨accepted, greater, less⟩

/-! Add, subtract, multiply and divide -/

theorem fpAddInto_undefined (not : (fpAccepted a && fpAccepted b) = false) :
    fpAddInto len a1 a b s = fpUndefined len a1 s := if_neg (by simp [not])

theorem fpSubInto_undefined (not : (fpAccepted a && fpAccepted b) = false) :
    fpSubInto len a1 a b s = fpUndefined len a1 s := if_neg (by simp [not])

theorem fpMulInto_undefined (not : (fpAccepted a && fpAccepted b) = false) :
    fpMulInto len a1 a b s = fpUndefined len a1 s := if_neg (by simp [not])

theorem fpDivInto_undefined (not : (fpAccepted a && fpAccepted b) = false) :
    fpDivInto len a1 a b s = fpUndefined len a1 s := if_neg (by simp [not])

theorem fpAddInto_yields (ready : FprReady s r1 a1) (aAccepted : fpAccepted a = true)
    (bAccepted : fpAccepted b = true) (len : Half) :
    let g := s.platform.addGuardDigits
    Yields (fpAddInto len a1 a b s) s a1
      (IsSum g (alignedValue g (commonExponent a b) a + alignedValue g (commonExponent a b) b)) len := by
  intro g
  rw [fpAddInto, if_pos (by simp [aAccepted, bAccepted]), ← alignedSum_fpFields]
  exact yields_of_fpResultInto ready rfl (isSum_fpAdd _ (fieldsFit_fpFields a) (fieldsFit_fpFields b))

theorem fpSubInto_yields (ready : FprReady s r1 a1) (aAccepted : fpAccepted a = true)
    (bAccepted : fpAccepted b = true) (len : Half) :
    let g := s.platform.addGuardDigits
    Yields (fpSubInto len a1 a b s) s a1
      (IsSum g (alignedValue g (commonExponent a b) a - alignedValue g (commonExponent a b) b)) len := by
  intro g
  rw [fpSubInto, if_pos (by simp [aAccepted, bAccepted]), ← alignedSum_invert]
  exact yields_of_fpResultInto ready rfl (isSum_fpAdd _ (fieldsFit_fpFields a) (fieldsFit_fpFields b))

theorem fpMulInto_yields (ready : FprReady s r1 a1) (aAccepted : fpAccepted a = true)
    (bAccepted : fpAccepted b = true) (len : Half) :
    Yields (fpMulInto len a1 a b s) s a1 (IsProduct s.platform.mulRound a b) len := by
  rw [fpMulInto, if_pos (by simp [aAccepted, bAccepted])]
  exact yields_of_fpResultInto ready rfl (isProduct_fpMul _ _ aAccepted bAccepted)

theorem fpDivInto_nonzero (aAccepted : fpAccepted a = true) (bAccepted : fpAccepted b = true) (nonzero : b ≠ 0) :
    let x := fpDiv s.platform.divRound Config.quotientRounding (fpFields a) (fpFields b)
    fpDivInto len a1 a b s = fpResultInto len a1 (!x.v && s.freeBit 0) x (s.drawn 1) := by
  rw [fpDivInto, if_pos (by simp [aAccepted, bAccepted]), if_neg nonzero]

/-- C of a quotient is free where the quotient is in range (D45). -/
theorem fpDivInto_delivered (ready : FprReady s r1 a1) (aAccepted : fpAccepted a = true)
    (bAccepted : fpAccepted b = true) (nonzero : b ≠ 0) (len : Half) :
    ∃ u x, IsQuotient s.platform.divRound a b x ∧ Delivered s u a1 x ∧ u.loc = s.loc ∧ (x.v = true → flagC u = false) ∧
      fpDivInto len a1 a b s = if x.v && s.fpe then raise .floatingPointFault len u else .next (u.advance len) := by
  rw [fpDivInto_nonzero aAccepted bAccepted nonzero]
  obtain ⟨u, delivered, loc, carry, ends⟩ := fpResultInto_delivered ready len _ _ 1
  exact ⟨u, _, isQuotient_fpDiv _ _ aAccepted bAccepted nonzero, delivered, loc,
    fun fault => by simp [carry, fault], ends⟩

theorem fpDivInto_yields (ready : FprReady s r1 a1) (aAccepted : fpAccepted a = true)
    (bAccepted : fpAccepted b = true) (nonzero : b ≠ 0) (len : Half) :
    Yields (fpDivInto len a1 a b s) s a1 (IsQuotient s.platform.divRound a b) len :=
  yields_of_fpResultInto ready (fpDivInto_nonzero aAccepted bAccepted nonzero)
    (isQuotient_fpDiv _ _ aAccepted bAccepted nonzero)

/-- Division by true zero writes the Condition Code alone before it ends (R319). -/
theorem fpDivInto_zero (aAccepted : fpAccepted a = true) (len : Half) (a1 : BitVec 18) :
    ∃ u, u.cc = 12 ∧ u.loc = s.loc ∧ Ordinary s u [] [] ∧
      fpDivInto len a1 a 0 s = if s.fpe then raise .floatingPointFault len u else .next (u.advance len) := by
  refine ⟨s.setCC (ccOf true true false false), rfl, rfl, ordinary_setCC (ordinary_refl s [] []) _, ?_⟩
  rw [fpDivInto, if_pos (by rw [aAccepted]; rfl), if_pos rfl]
  rfl

/-! The instructions: both operand forms run one operation. -/

theorem exec_add_subtract (ready : FprReady s r1 a1)
    (form : (add = .aer r1 r2 ∧ sub = .ser r1 r2 ∧ len = 2 ∧ ∃ a2, FprReady s r2 a2 ∧ b = fprWord s a2) ∨
      (add = .ae r1 x2 m ∧ sub = .se r1 x2 m ∧ len = 4 ∧ FullReady s s.obank (s.sum m x2) ∧
        b = s.fullAt s.obank (s.sum m x2))) :
    exec add s = fpAddInto len a1 (fprWord s a1) b s ∧ exec sub s = fpSubInto len a1 (fprWord s a1) b s := by
  rcases form with ⟨rfl, rfl, rfl, a2, second, rfl⟩ | ⟨rfl, rfl, rfl, second, rfl⟩
  · exact ⟨fpRegisters_ready ready second _, fpRegisters_ready ready second _⟩
  · exact ⟨fpStorage_ready ready second _, fpStorage_ready ready second _⟩

theorem exec_multiply_divide (ready : FprReady s r1 a1)
    (form : (mul = .mer r1 r2 ∧ div = .der r1 r2 ∧ len = 2 ∧ ∃ a2, FprReady s r2 a2 ∧ b = fprWord s a2) ∨
      (mul = .me r1 x2 m ∧ div = .de r1 x2 m ∧ len = 4 ∧ FullReady s s.obank (s.sum m x2) ∧
        b = s.fullAt s.obank (s.sum m x2))) :
    exec mul s = fpMulInto len a1 (fprWord s a1) b s ∧ exec div s = fpDivInto len a1 (fprWord s a1) b s := by
  rcases form with ⟨rfl, rfl, rfl, a2, second, rfl⟩ | ⟨rfl, rfl, rfl, second, rfl⟩
  · exact ⟨fpRegisters_ready ready second _, fpRegisters_ready ready second _⟩
  · exact ⟨fpStorage_ready ready second _, fpStorage_ready ready second _⟩

theorem exec_compare (ready : FprReady s r1 a1)
    (form : (i = .cer r1 r2 ∧ len = 2 ∧ ∃ a2, FprReady s r2 a2 ∧ b = fprWord s a2) ∨
      (i = .ce r1 x2 m ∧ len = 4 ∧ FullReady s s.obank (s.sum m x2) ∧ b = s.fullAt s.obank (s.sum m x2))) :
    exec i s = fpCompare len (fprWord s a1) b s := by
  rcases form with ⟨rfl, rfl, a2, second, rfl⟩ | ⟨rfl, rfl, second, rfl⟩
  · exact fpRegisters_ready ready second _
  · exact fpStorage_ready ready second _

/-! Compare (R315) -/

theorem fpCompare_accepted (accepted : (fpAccepted a && fpAccepted b) = true) (len : Half) :
    ∃ t, fpCompare len a b s = .next t ∧ t.loc = s.loc + len ∧ Ordinary s t [] [] ∧
      flagC t = decide (fpValue a < fpValue b) ∧ flagG t = decide (fpValue b < fpValue a) ∧
      flagL t = decide (fpValue a < fpValue b) := by
  obtain ⟨carry, -, greater, less⟩ := ccOf_getMsbD (decide (fpValue a < fpValue b)) (s.freeBit 0)
    (decide (fpValue b < fpValue a)) (decide (fpValue a < fpValue b))
  exact ⟨_, if_pos accepted, rfl, flags_ordinary s _ 1 len, carry, greater, less⟩

theorem fpCompare_undefined (not : (fpAccepted a && fpAccepted b) = false) :
    fpCompare len a b s = unnormalized s (.next (((s.setCC s.freeCC).drawn 4).advance len)) :=
  if_neg (by simp [not])

theorem fpCompare_goesOn (not : (fpAccepted a && fpAccepted b) = false) (policy : s.platform.undefined = .goesOn)
    (len : Half) : ∃ t, fpCompare len a b s = .next t ∧ t.loc = s.loc + len ∧ Ordinary s t [] [] :=
  ⟨_, (fpCompare_undefined not).trans (unnormalized_goesOn policy _), rfl, flags_ordinary s _ 4 len⟩

/-! Load and store (R308 to R310) -/

theorem ler_delivers (first : FprReady s r1 a1) (second : FprReady s r2 a2) :
    Delivers (exec (.ler r1 r2) s) s a1 (fpLoadResult (fprWord s a2)) 2 := by
  have runs : exec (.ler r1 r2) s = fpLoad 2 a1 (fprWord s a2) s :=
    (withFpr_ready first _).trans ((withFpr_ready second _).trans (attempt_readFpr_ready second _))
  exact delivers_of_fpResultInto first runs

theorem le_delivers (first : FprReady s r1 a1) (second : FullReady s s.obank (s.sum m x2)) :
    Delivers (exec (.le r1 x2 m) s) s a1 (fpLoadResult (s.fullAt s.obank (s.sum m x2))) 4 := by
  have runs : exec (.le r1 x2 m) s = fpLoad 4 a1 (s.fullAt s.obank (s.sum m x2)) s :=
    (withFpr_ready first _).trans (attempt_operandFull_ready second _)
  exact delivers_of_fpResultInto first runs

theorem ste_stores (first : FprReady s r1 a1) (second : FullReady s s.obank (s.sum m x2)) :
    ∃ t, exec (.ste r1 x2 m) s = .next t ∧ t.fullAt s.obank (s.sum m x2) = fprWord s a1 ∧ t.cc = s.cc ∧
      t.loc = s.loc + 4 ∧ Ordinary s t [] (fullBytes s.obank (s.sum m x2)) := by
  refine ⟨_, (withFpr_ready first _).trans ((attempt_readFpr_ready first _).trans
    (attempt_of_ok (writeFull_ready _ second) _)), ?_, rfl, rfl, ordinary_advance (ordinary_putFull s _ _ _ []) 4⟩
  exact (State.advance_fullAt ..).trans (fullAt_putFull_self ..)

end

/-! The statements -/

/-- Settles O28: each is one read and one delivery or store, behind the check of the register numbers. -/
theorem floatingLoadStore : Obligations.FloatingLoadStore := by
  unfold Obligations.FloatingLoadStore
  intro s r1 r2 x2 m
  refine ⟨fun a1 a2 => ler_delivers, fun a1 first second => ⟨le_delivers first second, ste_stores first second⟩,
    fun invalid i listed => ?first, fun invalid i listed => ?second⟩
  case first =>
    have refused (k : BitVec 18 → Result) := withFpr_invalid invalid k
    simp only [List.mem_cons, List.not_mem_nil, or_false] at listed
    obtain rfl | rfl | rfl | rfl | rfl | rfl | rfl | rfl | rfl | rfl | rfl | rfl | rfl := listed <;> exact refused _
  case second =>
    simp only [List.mem_cons, List.not_mem_nil, or_false] at listed
    obtain rfl | others := listed
    · exact withFpr_refused fun _ => withFpr_invalid invalid _
    · obtain rfl | rfl | rfl | rfl | rfl := others <;> exact fpRegisters_refused invalid _

/-- Settles O29: what each procedure computes is normalized or true zero in every case. -/
theorem floatingResultsNormalized : Obligations.FloatingResultsNormalized := by
  unfold Obligations.FloatingResultsNormalized
  refine ⟨fun w => ?load, fun a b guard rule own own3 aAccepted bAccepted => ⟨?add, ?sub, ?mul, fun nonzero => ?div⟩,
    fun w guard e above => ⟨alignedValue_exact above, alignedValue_error above⟩⟩
  case load => exact ⟨fpAccepted_of_isLoad (isLoad_fpLoadResult w), isLoad_fpLoadResult w⟩
  case add | sub => exact fpAccepted_of_isSum (isSum_fpAdd guard (fieldsFit_fpFields _) (fieldsFit_fpFields _))
  case mul => exact fpAccepted_of_isProduct (isProduct_fpMul rule own aAccepted bAccepted)
  case div => exact fpAccepted_of_isQuotient (isQuotient_fpDiv rule own3 aAccepted bAccepted nonzero)

/-- Settles O30: a subtract is the add of the operand with its sign inverted. -/
theorem floatingAddSubtract : Obligations.FloatingAddSubtract := by
  unfold Obligations.FloatingAddSubtract
  intro s r1 r2 x2 m a1 b len add sub ready form a g va vb
  obtain ⟨runsAdd, runsSub⟩ := exec_add_subtract ready form
  rw [runsAdd, runsSub]
  refine ⟨fun aAccepted bAccepted => ⟨fpAddInto_yields ready aAccepted bAccepted len,
    fpSubInto_yields ready aAccepted bAccepted len⟩, fun not policy => ?goesOn, fun not policy => ?refused⟩
  all_goals rw [fpAddInto_undefined not, fpSubInto_undefined not]
  case goesOn => exact ⟨fpUndefined_runsOn ready policy len, fpUndefined_runsOn ready policy len⟩
  case refused => exact ⟨unnormalized_refused policy _, unnormalized_refused policy _⟩

/-- Settles O31: a compare writes the Condition Code and nothing else, whether or not the operands are normalized. -/
theorem floatingCompare : Obligations.FloatingCompare := by
  unfold Obligations.FloatingCompare
  intro s r1 r2 x2 m a1 b len i ready form a
  rw [exec_compare ready form]
  refine ⟨fun goesOn => ?next, fun not policy => ?refused⟩
  case next =>
    by_cases accepted : (fpAccepted a && fpAccepted b) = true
    · obtain ⟨t, next, loc, ordinary, flags⟩ := fpCompare_accepted (s := s) accepted len
      exact ⟨t, next, loc, ordinary, fun _ _ => flags⟩
    · obtain ⟨t, next, loc, ordinary⟩ :=
        fpCompare_goesOn (Bool.eq_false_of_not_eq_true accepted) (goesOn.resolve_left accepted) len
      exact ⟨t, next, loc, ordinary, fun aAccepted bAccepted => absurd (by rw [aAccepted, bAccepted]; rfl) accepted⟩
  case refused => exact (fpCompare_undefined not).trans (unnormalized_refused policy _)

/-- Settles O32: only a divisor of true zero ends without a result. -/
theorem floatingMultiplyDivide : Obligations.FloatingMultiplyDivide := by
  unfold Obligations.FloatingMultiplyDivide
  intro s r1 r2 x2 m a1 b len mul div ready form a
  obtain ⟨runsMul, runsDiv⟩ := exec_multiply_divide ready form
  rw [runsMul, runsDiv]
  refine ⟨fun aAccepted bAccepted => ⟨fpMulInto_yields ready aAccepted bAccepted len, fun nonzero => ?quotient,
    fun zero => ?zero⟩, fun not policy => ?goesOn, fun not policy => ?refused⟩
  case quotient =>
    exact ⟨fpDivInto_yields ready aAccepted bAccepted nonzero len,
      fpDivInto_delivered ready aAccepted bAccepted nonzero len⟩
  case zero => exact zero ▸ fpDivInto_zero aAccepted len a1
  all_goals rw [fpMulInto_undefined not, fpDivInto_undefined not]
  case goesOn => exact ⟨fpUndefined_runsOn ready policy len, fpUndefined_runsOn ready policy len⟩
  case refused => exact ⟨unnormalized_refused policy _, unnormalized_refused policy _⟩

end Sys2Proof.Proofs
end

section
/-! System control (46_system_control.md): what reads back after the Program Status or its bank fields are written, what
storing the call block of SVC leaves alone, and from that the system control instructions. -/

namespace Sys2Proof.Proofs

open Sys2Proof.Machine Sys2Proof.Safety

section

variable {s t : State} {r1 r2 x2 : Reg} {a : Half} {c : Bank} {f : Half} {regs : List Reg}
  {bytes : List (Bank × Half)}

/-! The Program Status Word written -/

@[simp] theorem ps_setPs (s : State) (p : Half) : (s.setPs p).ps = p :=
  (BitVec.extractLsb'_append_extractLsb'_eq_extractLsb' rfl).trans BitVec.extractLsb'_eq_self

@[simp] theorem obank_setObank (s : State) (b : Bank) : (s.setObank b).obank = b :=
  BitVec.extractLsb'_append_eq_right

/-- The control bits to the left of the operand bank. -/
theorem control_setObank_rest (s : State) (b : Bank) :
    (s.setObank b).control.extractLsb' 2 10 = s.control.extractLsb' 2 10 :=
  BitVec.extractLsb'_append_eq_left

theorem control_setBanks_banks (s : State) (b : BitVec 4) : (s.setBanks b).control.extractLsb' 0 4 = b :=
  BitVec.extractLsb'_append_eq_right

/-- The control bits to the left of the two bank fields. -/
theorem control_setBanks_rest (s : State) (b : BitVec 4) :
    (s.setBanks b).control.extractLsb' 4 8 = s.control.extractLsb' 4 8 :=
  BitVec.extractLsb'_append_eq_left

/-- The Program Status Word is in no frame, so whatever is loaded into it keeps the frame. -/
theorem frame_withPsw (h : Ordinary s t regs bytes) (control : BitVec 12) (cc : BitVec 4) (loc : Half) :
    Frame s { t with control := control, cc := cc, loc := loc } regs bytes ∧
      DevicesSame s { t with control := control, cc := cc, loc := loc } := by
  obtain ⟨⟨registers, memory, platform, central, active⟩, -, ⟨pending, answers, requests⟩⟩ := h
  exact ⟨⟨registers, memory, platform, central, active⟩, ⟨pending, answers, requests⟩⟩

theorem frame_setPs_setLoc (h : Ordinary s t regs bytes) (p loc : Half) :
    Frame s ((t.setPs p).setLoc loc) regs bytes ∧ DevicesSame s ((t.setPs p).setLoc loc) :=
  frame_withPsw h _ _ _

/-! LPSW (R340) -/

theorem zeroField_zero (zero : r1 = 0) (k : Result) : zeroField r1 k = k := if_pos zero

theorem zeroField_nonzero (nonzero : r1 ≠ 0) (k : Result) : zeroField r1 k = .refused .r1MustBeZero :=
  if_neg nonzero

theorem loadPsw_loads {e : Half} (ready : FullReady s s.obank e) :
    ∃ t, loadPsw e s = .next t ∧ t.psw = s.fullAt s.obank e ∧ Frame s t [] [] ∧ DevicesSame s t :=
  ⟨_, attempt_of_ok (readFull_ready ready) _, psw_setPsw s _, frame_withPsw (ordinary_refl s [] []) _ _ _⟩

/-! The exchanges with registers (R341 to R343) -/

theorem ordinary_setReg_self (s : State) (r : Reg) (v : Half) : Ordinary s (s.setReg r v) [r] [] :=
  ordinary_setReg (ordinary_refl s _ _) (List.mem_singleton_self r) v

theorem eppr_exchanges (r2 : Reg) (within : r1.val ≤ 14) :
    ∃ t, exec (.eppr r1 r2) s = .next t ∧ t.reg r1 = s.ps ∧ t.reg (r1 + 1) = s.loc + 2 ∧
      t.control.extractLsb' 0 4 = (s.reg r1).extractLsb' 4 4 ∧
      t.control.extractLsb' 4 8 = s.control.extractLsb' 4 8 ∧ t.loc = s.reg (r1 + 1) ∧ t.cc = s.cc ∧
      Frame s t [r1, r1 + 1] [] ∧ DevicesSame s t := by
  have saved : Ordinary s ((s.setReg r1 s.ps).setReg (r1 + 1) (s.loc + 2)) [r1, r1 + 1] [] :=
    ordinary_setReg (ordinary_setReg (ordinary_refl s _ _) (by simp) s.ps) (by simp) (s.loc + 2)
  have first : ((s.setReg r1 s.ps).setReg (r1 + 1) (s.loc + 2)).reg r1 = s.ps := by
    rw [reg_setReg, if_neg (by simp), reg_setReg_self]
  exact ⟨_, if_pos within, first, reg_setReg_self _ (r1 + 1) _, control_setBanks_banks _ _,
    control_setBanks_rest _ _, rfl, rfl, frame_withPsw saved _ _ _⟩

theorem eppr_refused (r2 : Reg) (last : r1.val = 15) : exec (.eppr r1 r2) s = .refused .pairBeyondR15 :=
  if_neg (by omega)

/-- R2 is read after R1 is written, so with R1 = R2 it holds the former Program Status. -/
theorem epsr_exchanges (r1 r2 : Reg) (supervisor : s.prot = false) :
    ∃ t, exec (.epsr r1 r2) s = .next t ∧ t.reg r1 = s.ps ∧ t.ps = (if r1 = r2 then s.ps else s.reg r2) ∧
      t.loc = s.loc + 2 ∧ Frame s t [r1] [] ∧ DevicesSame s t := by
  exact ⟨_, privileged_supervisor _ supervisor, reg_setReg_self s r1 s.ps,
    (ps_setPs (s.setReg r1 s.ps) _).trans (reg_setReg s r1 r2 s.ps), rfl,
    frame_withPsw (ordinary_setReg_self s r1 s.ps) _ _ _⟩

/-! SVC (R345) -/

theorem halfAt_of_frame (h : Frame s t regs bytes) (high : (c, f) ∉ bytes) (low : (c, f + 1) ∉ bytes) :
    t.halfAt c f = s.halfAt c f := by
  rw [State.halfAt, State.halfAt, h.memory c f high, h.memory c (f + 1) low]

/-- What two effects in turn leave alone. -/
theorem ordinary_append {u : State} {more : List (Bank × Half)} (first : Ordinary s t regs bytes)
    (second : Ordinary t u regs more) : Ordinary s u regs (bytes ++ more) := by
  obtain ⟨⟨registers, memory, platform, central, active⟩, control, ⟨pending, answers, requests⟩⟩ := second
  refine ⟨⟨fun r other => (registers r other).trans (first.frame.registers r other), fun b e outside => ?memory,
    platform.trans first.frame.platform, central.trans first.frame.central, active.trans first.frame.active⟩,
    control.trans first.control, ⟨pending.trans first.devices.pending, answers.trans first.devices.answers,
      requests.trans first.devices.requests⟩⟩
  rw [List.mem_append, not_or] at outside
  exact (memory b e outside.2).trans (first.frame.memory b e outside.1)

/-- The state with the parameter pointer and the Old PSW of a call stored. -/
def storeCallBlock (s : State) (pointer : Half) (oldPsw : Full) : State :=
  (s.putHalf 0 0x0094 pointer).putFull 0 0x0096 oldPsw

theorem storeCallBlock_ordinary (s : State) (pointer : Half) (oldPsw : Full) :
    Ordinary s (storeCallBlock s pointer oldPsw) [] (byteRange 0 0x0094 6) := by
  have block : halfBytes 0 0x0094 ++ fullBytes 0 0x0096 = byteRange 0 0x0094 6 := by decide
  exact block ▸ ordinary_append (ordinary_putHalf s 0 _ pointer []) (ordinary_putFull _ 0 _ oldPsw [])

theorem storeCallBlock_pointer (s : State) (pointer : Half) (oldPsw : Full) :
    (storeCallBlock s pointer oldPsw).halfAt 0 0x0094 = pointer := by
  have kept := (ordinary_putFull (s.putHalf 0 0x0094 pointer) 0 0x0096 oldPsw []).frame
  exact (halfAt_of_frame kept (by decide) (by decide)).trans (halfAt_putHalf_self s 0 _ pointer)

theorem storeCallBlock_oldPsw (s : State) (pointer : Half) (oldPsw : Full) :
    (storeCallBlock s pointer oldPsw).fullAt 0 0x0096 = oldPsw := fullAt_putFull_self _ 0 _ oldPsw

/-! The new Program Status and the entries of the call types lie behind what the call stores. -/

theorem storeCallBlock_newStatus (s : State) (pointer : Half) (oldPsw : Full) :
    (storeCallBlock s pointer oldPsw).halfAt 0 0x009A = s.halfAt 0 0x009A :=
  halfAt_of_frame (storeCallBlock_ordinary s pointer oldPsw).frame (by decide) (by decide)

theorem storeCallBlock_entry (s : State) (pointer : Half) (oldPsw : Full) (r1 : Reg) :
    (storeCallBlock s pointer oldPsw).halfAt 0 (0x009C + BitVec.ofNat 16 (2 * r1.val)) =
      s.halfAt 0 (0x009C + BitVec.ofNat 16 (2 * r1.val)) := by
  refine halfAt_of_frame (storeCallBlock_ordinary s pointer oldPsw).frame ?high ?low
  case high | low =>
    rw [mem_byteRange_iff]
    rintro ⟨-, inside⟩
    bv_omega

theorem exec_svc (s : State) (r1 x2 : Reg) (a : Half) : exec (.svc r1 x2 a) s = execSvc r1 x2 a s := rfl

theorem callEntry_eq (r1 : Reg) :
    (0x009C + 2 * BitVec.ofNat 16 r1.val : Half) = 0x009C + BitVec.ofNat 16 (2 * r1.val) := by
  rw [BitVec.ofNat_mul]; rfl

theorem svc_runs (pointerReady : HalfReady s 0 0x0094) (oldReady : FullReady s 0 0x0096)
    (statusReady : HalfReady s 0 0x009A) (entryReady : HalfReady s 0 (0x009C + BitVec.ofNat 16 (2 * r1.val))) :
    exec (.svc r1 x2 a) s =
      .next (((storeCallBlock s (s.sum a x2) (s.ps ++ (s.loc + 4))).setPs (s.halfAt 0 0x009A)).setLoc
        (s.halfAt 0 (0x009C + BitVec.ofNat 16 (2 * r1.val)))) := by
  have platform := (storeCallBlock_ordinary s (s.sum a x2) (s.ps ++ (s.loc + 4))).frame.platform
  have old := (fullReady_congr (State.putHalf_platform s 0 0x0094 (s.sum a x2)) _ _).mpr oldReady
  have status := (halfReady_congr platform _ _).mpr statusReady
  have entry := (halfReady_congr platform _ _).mpr entryReady
  rw [exec_svc, execSvc, callEntry_eq, writeHalf_ready _ pointerReady, attempt_ok, writeFull_ready _ old, attempt_ok,
    ← storeCallBlock, readHalf_ready status, attempt_ok, readHalf_ready entry, attempt_ok, storeCallBlock_newStatus,
    storeCallBlock_entry]

end

/-! The statements -/

/-- Settles O34: in Supervisor Mode with a zero R1 field it is the return from an interrupt. (Without its last word
the theorem's name would hide the model's `loadPsw` in this namespace.) -/
theorem loadPswObligation : Obligations.LoadPsw := by
  unfold Obligations.LoadPsw
  intro s r1 x2 a2 supervisor
  have run (k : Result) : privileged 4 s k = k := privileged_supervisor k supervisor
  refine ⟨fun zero ready => ?loads, fun nonzero => (run _).trans (zeroField_nonzero nonzero _)⟩
  obtain ⟨t, next, loaded⟩ := loadPsw_loads ready
  exact ⟨t, (run _).trans ((zeroField_zero zero _).trans next), loaded⟩

/-- Settles O35: one register and one field of the Program Status are written. -/
theorem exchangeOperandBank : Obligations.ExchangeOperandBank := by
  unfold Obligations.ExchangeOperandBank
  intro s r1 r2
  have kept := frame_withPsw (ordinary_setReg_self s r1 s.ps)
  exact ⟨_, rfl, reg_setReg_self s r1 s.ps, obank_setObank _ _, control_setObank_rest _ _, rfl, rfl,
    (kept _ _ _).1, (kept _ _ _).2, rfl⟩

/-- Settles O36: both save the Program Status before they write it. -/
theorem exchangeProgramStatus : Obligations.ExchangeProgramStatus := by
  unfold Obligations.ExchangeProgramStatus
  exact fun _ r1 r2 => ⟨eppr_exchanges r2, eppr_refused r2, epsr_exchanges r1 r2⟩

/-- Settles O37: the new Program Status and location counter are read where the call stored nothing. -/
theorem supervisorCall : Obligations.SupervisorCall := by
  unfold Obligations.SupervisorCall
  intro s r1 x2 i2 pointerReady oldReady statusReady entryReady
  refine ⟨_, svc_runs pointerReady oldReady statusReady entryReady, ?pointer, ?oldPsw, ?status,
    State.setLoc_loc _ _, frame_setPs_setLoc (storeCallBlock_ordinary s _ _) _ _⟩
  case pointer => rw [State.setLoc_halfAt, State.setPs_halfAt, storeCallBlock_pointer]
  case oldPsw => rw [State.setLoc_fullAt, State.setPs_fullAt, storeCallBlock_oldPsw]
  case status => rw [State.setLoc_ps, ps_setPs]

end Sys2Proof.Proofs
end

section
/-! Input and output of bytes and halfwords (47_io_and_list.md R360 to R377): what sending a request, delivering a
status and clearing an acknowledged interrupt leave alone, and from that the acknowledge, sense, command and transfer
instructions. -/

namespace Sys2Proof.Proofs

open Sys2Proof.Machine Sys2Proof.Safety

section

variable {s t u : State} {r1 r2 x2 : Reg} {a len : Half} {q : DeviceRequest} {regs : List Reg}
  {bytes : List (Bank × Half)} {r : Result}

/-! A request (R361) -/

theorem ask_answer (s : State) (q : DeviceRequest) : (s.ask q).1 = answerTo s := (ask_eq s q).1

theorem ask_loc (s : State) (q : DeviceRequest) : (s.ask q).2.loc = s.loc := by rw [(ask_eq s q).2]

theorem ask_reg (s : State) (q : DeviceRequest) (r : Reg) : (s.ask q).2.reg r = s.reg r := by
  rw [(ask_eq s q).2]; rfl

theorem ask_byteAt (s : State) (q : DeviceRequest) (b : Bank) (e : Half) :
    (s.ask q).2.byteAt b e = s.byteAt b e := by rw [(ask_eq s q).2]; rfl

theorem ask_halfAt (s : State) (q : DeviceRequest) (b : Bank) (e : Half) :
    (s.ask q).2.halfAt b e = s.halfAt b e := by rw [(ask_eq s q).2]; rfl

/-- What an ordinary effect after a request leaves alone: the frame is that of the effect. -/
theorem asked_of_ordinary (h : Ordinary (s.ask q).2 t regs bytes) :
    t.pending = s.pending ∧ Frame s t regs bytes ∧ Asked s t q := by
  obtain ⟨⟨registers, memory, platform, central, active⟩, control, ⟨pending, answers, requests⟩⟩ := h
  rw [(ask_eq s q).2] at registers memory platform central active control pending answers requests
  exact ⟨pending, ⟨registers, memory, platform, central, active⟩, ⟨requests, answers, control⟩⟩

theorem ordinary_setStatusCC (h : Ordinary s t regs bytes) (st : Byte) :
    Ordinary s (t.setStatusCC st) regs bytes := ordinary_setCC h _

theorem ordinary_setTransferCC (h : Ordinary s t regs bytes) (v : Bool) :
    Ordinary s (t.setTransferCC v) regs bytes := ordinary_drawn (ordinary_setCC h _) 3

/-- The end of a command or a transfer whose effect, after the request, was ordinary (R362(b), (c)). -/
theorem transfer_completes (effect : Ordinary (s.ask q).2 u regs bytes) (loc : u.loc = s.loc) (v : Bool) (len : Half) :
    let t := (u.setTransferCC v).advance len
    flagV t = v ∧ t.loc = s.loc + len ∧ t.pending = s.pending ∧ Frame s t regs bytes ∧ Asked s t q :=
  ⟨flagV_setTransferCC u v, congrArg (· + len) loc,
    asked_of_ordinary (ordinary_advance (ordinary_setTransferCC effect v) len)⟩

/-- The end of a sense whose effect, after the request, was ordinary (R362(a)). -/
theorem sense_completes (effect : Ordinary (s.ask q).2 u regs bytes) (loc : u.loc = s.loc) (st : Byte) (len : Half) :
    let t := (u.setStatusCC st).advance len
    t.cc = st.extractLsb' 0 4 ∧ t.pending = s.pending ∧ t.loc = s.loc + len ∧ Frame s t regs bytes ∧ Asked s t q := by
  obtain ⟨pending, frame, asked⟩ := asked_of_ordinary (ordinary_advance (ordinary_setStatusCC effect st) len)
  exact ⟨rfl, pending, congrArg (· + len) loc, frame, asked⟩

theorem writeByte_ask_ready {b : Bank} {e : Half} (q : DeviceRequest) (v : Byte) (ready : ByteReady s b e) :
    (s.ask q).2.writeByte b e v = .ok ((s.ask q).2.putByte b e v) :=
  writeByte_ready v ((byteReady_congr (ask_platform s q) b e).mpr ready)

theorem writeHalf_ask_ready {b : Bank} {e : Half} (q : DeviceRequest) (v : Half) (ready : HalfReady s b e) :
    (s.ask q).2.writeHalf b e v = .ok ((s.ask q).2.putHalf b e v) :=
  writeHalf_ready v ((halfReady_congr (ask_platform s q) b e).mpr ready)

/-! Commands and data writes (R367, R368, R371, R372, R376, R377) -/

theorem sendCommand_eq (len : Half) (d c : Byte) (s : State) :
    sendCommand len d c s =
      ((s.ask (.command d c)).2.setTransferCC ((answerTo s).timeout || (answerTo s).fail)).advance len :=
  ask_answer s (.command d c) ▸ rfl

theorem sendByte_eq (len : Half) (d b : Byte) (s : State) :
    sendByte len d b s = ((s.ask (.write8 d b)).2.setTransferCC (answerTo s).timeout).advance len :=
  ask_answer s (.write8 d b) ▸ rfl

theorem sendHalf_eq (len : Half) (d : Byte) (h : Half) (s : State) :
    sendHalf len d h s = ((s.ask (.write16 d h)).2.setTransferCC (answerTo s).timeout).advance len :=
  ask_answer s (.write16 d h) ▸ rfl

/-- An instruction that sends a request and has no other effect but on the flags. -/
theorem sends_of_next {v : Bool} (next : r = .next t) (sent : t = ((s.ask q).2.setTransferCC v).advance len) :
    ∃ t, r = .next t ∧ flagV t = v ∧ t.loc = s.loc + len ∧ t.pending = s.pending ∧ Frame s t [] [] ∧ Asked s t q :=
  ⟨_, sent ▸ next, transfer_completes (ordinary_refl _ [] []) (ask_loc s q) v len⟩

/-! Data reads (R369, R370, R374, R375) -/

/-- A register receives what the device sent, or stays on a time-out. -/
theorem readsInto_register {v : Half} {timeout : Bool}
    (next : r =
      .next (((if timeout then (s.ask q).2 else (s.ask q).2.setReg r2 v).setTransferCC timeout).advance len)) :
    ∃ t, r = .next t ∧ t.reg r2 = (if timeout then s.reg r2 else v) ∧ flagV t = timeout ∧ t.loc = s.loc + len ∧
      t.pending = s.pending ∧ Frame s t [r2] [] ∧ Asked s t q := by
  cases timeout with
  | true => exact ⟨_, next, ask_reg s q r2, transfer_completes (ordinary_refl _ [r2] []) (ask_loc s q) true len⟩
  | false =>
    exact ⟨_, next, reg_setReg_self _ r2 v,
      transfer_completes (ordinary_setReg_self _ r2 v) (ask_loc s q) false len⟩

theorem exec_rdr_supervisor (r1 r2 : Reg) (supervisor : s.prot = false) :
    exec (.rdr r1 r2) s =
      let asked := s.ask (.read8 (s.device r1))
      .next (((if asked.1.timeout then asked.2 else asked.2.setReg r2 (zextByte asked.1.byte)).setTransferCC
        asked.1.timeout).advance 2) :=
  privileged_supervisor _ supervisor

theorem exec_rhr_supervisor (r1 r2 : Reg) (supervisor : s.prot = false) :
    exec (.rhr r1 r2) s =
      let asked := s.ask (.read16 (s.device r1))
      .next (((if asked.1.timeout then asked.2 else asked.2.setReg r2 asked.1.half).setTransferCC
        asked.1.timeout).advance 2) :=
  privileged_supervisor _ supervisor

theorem rdr_reads (r1 r2 : Reg) (supervisor : s.prot = false) :
    let d := answerTo s
    ∃ t, exec (.rdr r1 r2) s = .next t ∧ t.reg r2 = (if d.timeout then s.reg r2 else (0 : Byte) ++ d.byte) ∧
      flagV t = d.timeout ∧ t.loc = s.loc + 2 ∧ t.pending = s.pending ∧ Frame s t [r2] [] ∧
      Asked s t (.read8 (s.device r1)) := by
  simp only [exec_rdr_supervisor r1 r2 supervisor, ask_answer, zextByte_eq_append]
  exact readsInto_register rfl

theorem rhr_reads (r1 r2 : Reg) (supervisor : s.prot = false) :
    let d := answerTo s
    ∃ t, exec (.rhr r1 r2) s = .next t ∧ t.reg r2 = (if d.timeout then s.reg r2 else d.half) ∧
      flagV t = d.timeout ∧ t.loc = s.loc + 2 ∧ t.pending = s.pending ∧ Frame s t [r2] [] ∧
      Asked s t (.read16 (s.device r1)) := by
  simp only [exec_rhr_supervisor r1 r2 supervisor, ask_answer]
  exact readsInto_register rfl

theorem rd_reads (supervisor : s.prot = false) (ready : ByteReady s s.obank (s.sum a x2)) :
    let d := answerTo s
    ∃ t, exec (.rd r1 x2 a) s = .next t ∧
      t.byteAt s.obank (s.sum a x2) = (if d.timeout then s.byteAt s.obank (s.sum a x2) else d.byte) ∧
      flagV t = d.timeout ∧ t.loc = s.loc + 4 ∧ t.pending = s.pending ∧ Frame s t [] [(s.obank, s.sum a x2)] ∧
      Asked s t (.read8 (s.device r1)) := by
  simp only [exec_rd_supervisor r1 x2 a supervisor, ask_answer, writeByte_ask_ready _ _ ready]
  cases (answerTo s).timeout with
  | true =>
    exact ⟨_, rfl, ask_byteAt s _ _ _, transfer_completes (ordinary_refl _ [] _) (ask_loc s _) true 4⟩
  | false =>
    exact ⟨_, rfl, byteAt_putByte_self _ _ _ _, transfer_completes (ordinary_putByte _ _ _ _ []) (ask_loc s _) false 4⟩

theorem rh_reads (supervisor : s.prot = false) (ready : HalfReady s s.obank (s.sum a x2)) :
    let d := answerTo s
    ∃ t, exec (.rh r1 x2 a) s = .next t ∧
      t.halfAt s.obank (s.sum a x2) = (if d.timeout then s.halfAt s.obank (s.sum a x2) else d.half) ∧
      flagV t = d.timeout ∧ t.loc = s.loc + 4 ∧ t.pending = s.pending ∧
      Frame s t [] (halfBytes s.obank (s.sum a x2)) ∧ Asked s t (.read16 (s.device r1)) := by
  simp only [exec_rh_supervisor r1 x2 a supervisor, ask_answer, writeHalf_ask_ready _ _ ready]
  cases (answerTo s).timeout with
  | true =>
    exact ⟨_, rfl, ask_halfAt s _ _ _, transfer_completes (ordinary_refl _ [] _) (ask_loc s _) true 4⟩
  | false =>
    exact ⟨_, rfl, halfAt_putHalf_self _ _ _ _, transfer_completes (ordinary_putHalf _ _ _ _ []) (ask_loc s _) false 4⟩

/-! Sense (R365, R366) -/

theorem exec_ssr_supervisor (r1 r2 : Reg) (supervisor : s.prot = false) :
    exec (.ssr r1 r2) s =
      let asked := s.ask (.sense (s.device r1))
      .next (((asked.2.setReg r2 (zextByte (statusByte asked.1))).setStatusCC (statusByte asked.1)).advance 2) :=
  privileged_supervisor _ supervisor

theorem ssr_senses (r1 r2 : Reg) (supervisor : s.prot = false) :
    let st := statusByte (answerTo s)
    ∃ t, exec (.ssr r1 r2) s = .next t ∧ t.reg r2 = (0 : Byte) ++ st ∧ t.cc = st.extractLsb' 0 4 ∧
      t.pending = s.pending ∧ t.loc = s.loc + 2 ∧ Frame s t [r2] [] ∧ Asked s t (.sense (s.device r1)) := by
  simp only [exec_ssr_supervisor r1 r2 supervisor, ask_answer, zextByte_eq_append]
  exact ⟨_, rfl, reg_setReg_self _ r2 _, sense_completes (ordinary_setReg_self _ r2 _) (ask_loc s _) _ 2⟩

theorem ss_senses (supervisor : s.prot = false) (ready : ByteReady s s.obank (s.sum a x2)) :
    let st := statusByte (answerTo s)
    ∃ t, exec (.ss r1 x2 a) s = .next t ∧ t.byteAt s.obank (s.sum a x2) = st ∧ t.cc = st.extractLsb' 0 4 ∧
      t.pending = s.pending ∧ t.loc = s.loc + 4 ∧ Frame s t [] [(s.obank, s.sum a x2)] ∧
      Asked s t (.sense (s.device r1)) := by
  simp only [exec_ss_supervisor r1 x2 a supervisor, ask_answer, writeByte_ask_ready _ _ ready]
  exact ⟨_, rfl, byteAt_putByte_self _ _ _ _, sense_completes (ordinary_putByte _ _ _ _ []) (ask_loc s _) _ 4⟩

/-! Acknowledge (R363, R364) -/

/-- The answer to an acknowledgement in `s`. -/
def ackAnswer (s : State) : DeviceAnswer := acknowledgement s.pending (answerTo s)

theorem askAck_answer (s : State) : s.askAck.1 = ackAnswer s := congrArg (acknowledgement s.pending) (ask_answer s .ack)

theorem ackAnswer_timeout (s : State) : (ackAnswer s).timeout = ((answerTo s).timeout || s.pending.isEmpty) :=
  acknowledgement_timeout s.pending (answerTo s)

theorem ackAnswer_status (s : State) : (ackAnswer s).status = (answerTo s).status := by
  unfold ackAnswer acknowledgement
  split
  · rfl
  · split <;> rfl

/-- On a time-out the number is the answer's own. -/
theorem ackAnswer_device_of_timeout (timeout : (ackAnswer s).timeout = true) :
    (ackAnswer s).device = (answerTo s).device := by
  unfold ackAnswer acknowledgement at *
  split at timeout
  · rfl
  · have own : (answerTo s).timeout = true := by split at timeout <;> exact timeout
    rw [own, Bool.true_or, if_pos rfl]

theorem statusByte_ackAnswer (s : State) :
    statusByte (ackAnswer s) =
      deliveredStatus { answerTo s with timeout := (answerTo s).timeout || s.pending.isEmpty } := by
  rw [statusByte, deliveredStatus, ackAnswer_timeout, ackAnswer_status]

/-- The number of a requesting device was taken to R1, if `written`, and its request cleared; on a time-out every
request stays (R363; log 33). -/
def TakesNumber (s t : State) (r1 : Reg) (written : Bool) : Prop :=
  let d := answerTo s
  let timeout := d.timeout || s.pending.isEmpty
  ∃ n : Byte,
    (timeout = false → n ∈ s.pending ∧ (d.device ∈ s.pending → n = d.device) ∧ t.pending = s.pending.erase n ∧
      (written = true → t.reg r1 = (0 : Byte) ++ n)) ∧
    (timeout = true → t.pending = s.pending ∧
      (written = true → t.reg r1 = s.reg r1 ∨ t.reg r1 = (0 : Byte) ++ d.device))

theorem acknowledged_eq (u : State) (k : DeviceAnswer) :
    u.acknowledged k = { u with pending := if k.timeout then u.pending else u.pending.erase k.device } := by
  unfold State.acknowledged; split <;> rfl

theorem acknowledged_pending (u : State) (k : DeviceAnswer) :
    (u.acknowledged k).pending = if k.timeout then u.pending else u.pending.erase k.device := by rw [acknowledged_eq]

theorem acknowledged_reg (u : State) (k : DeviceAnswer) (r : Reg) : (u.acknowledged k).reg r = u.reg r := by
  rw [acknowledged_eq]; rfl

theorem acknowledged_byteAt (u : State) (k : DeviceAnswer) (b : Bank) (e : Half) :
    (u.acknowledged k).byteAt b e = u.byteAt b e := by rw [acknowledged_eq]; rfl

/-- Clearing an acknowledged request is in no frame and no part of what was asked. -/
theorem acknowledged_keeps (effect : Ordinary (s.ask .ack).2 u regs bytes) (k : DeviceAnswer) (len : Half) :
    Frame s ((u.acknowledged k).advance len) regs bytes ∧ Asked s ((u.acknowledged k).advance len) .ack := by
  obtain ⟨-, ⟨registers, memory, platform, central, active⟩, ⟨requests, answers, control⟩⟩ := asked_of_ordinary effect
  rw [acknowledged_eq]
  exact ⟨⟨registers, memory, platform, central, active⟩, ⟨requests, answers, control⟩⟩

theorem acknowledged_takesNumber {written : Bool} (pending : u.pending = s.pending)
    (number : written = true → u.reg r1 = zextByte (ackAnswer s).device ∨
      (ackAnswer s).timeout = true ∧ u.reg r1 = s.reg r1) (st : Byte) (len : Half) :
    TakesNumber s (((u.setStatusCC st).acknowledged (ackAnswer s)).advance len) r1 written := by
  refine ⟨(ackAnswer s).device, fun answered => ?answered, fun timeout => ?timeout⟩
  all_goals rw [State.advance_pending, State.advance_reg, acknowledged_pending, acknowledged_reg,
    State.setStatusCC_pending, State.setStatusCC_reg, pending]
  case answered =>
    rw [← ackAnswer_timeout] at answered
    obtain ⟨-, requesting, own⟩ := acknowledgement_device answered
    refine ⟨requesting, fun named => congrArg DeviceAnswer.device (own named), ?_, fun w => ?_⟩
    · exact if_neg (ne_true_of_eq_false answered)
    · exact ((number w).resolve_right fun h => absurd h.1 (ne_true_of_eq_false answered)).trans (zextByte_eq_append _)
  case timeout =>
    rw [← ackAnswer_timeout] at timeout
    refine ⟨if_pos timeout, fun w => (number w).symm.imp And.right fun taken => ?_⟩
    rw [taken, zextByte_eq_append, ackAnswer_device_of_timeout timeout]

/-- The end of an acknowledge whose effect, after the request, was ordinary. -/
theorem acknowledge_completes (effect : Ordinary (s.ask .ack).2 u regs bytes) (loc : u.loc = s.loc) (len : Half) :
    let t := ((u.setStatusCC (statusByte (ackAnswer s))).acknowledged (ackAnswer s)).advance len
    t.cc = (statusByte (ackAnswer s)).extractLsb' 0 4 ∧ t.loc = s.loc + len ∧ Frame s t regs bytes ∧
      Asked s t .ack := by
  refine ⟨?cc, ?loc, acknowledged_keeps (ordinary_setStatusCC effect _) _ len⟩
  all_goals rw [acknowledged_eq]
  case cc => rfl
  case loc => exact congrArg (· + len) loc

theorem ordinary_takeNumber (u : State) (r1 : Reg) (k : DeviceAnswer) (named : r1 ∈ regs) :
    Ordinary u (u.takeNumber r1 k) regs bytes :=
  ordinary_drawn (ordinary_setReg (ordinary_refl u regs bytes) named _) _

theorem takeNumber_reg (u : State) (r1 : Reg) (k : DeviceAnswer) :
    (u.takeNumber r1 k).reg r1 = zextByte k.device ∨ k.timeout = true ∧ (u.takeNumber r1 k).reg r1 = u.reg r1 := by
  obtain ⟨v, taken, number⟩ := takeNumber_cases u r1 k
  have value : (u.takeNumber r1 k).reg r1 = v := by rw [taken, State.drawn_reg, reg_setReg_self]
  rwa [value]

theorem exec_air_supervisor (r1 r2 : Reg) (supervisor : s.prot = false) :
    exec (.air r1 r2) s =
      let asked := s.askAck
      .next (((((asked.2.takeNumber r1 asked.1).setReg r2 (zextByte (statusByte asked.1))).setStatusCC
        (statusByte asked.1)).acknowledged asked.1).advance 2) :=
  privileged_supervisor _ supervisor

/-- With R1 = R2 the status replaces the number (R363). -/
theorem air_acknowledges (r1 r2 : Reg) (supervisor : s.prot = false) :
    let st := statusByte (ackAnswer s)
    ∃ t, exec (.air r1 r2) s = .next t ∧ TakesNumber s t r1 (r1 != r2) ∧ t.reg r2 = (0 : Byte) ++ st ∧
      t.cc = st.extractLsb' 0 4 ∧ t.loc = s.loc + 2 ∧ Frame s t [r1, r2] [] ∧ Asked s t .ack := by
  simp only [exec_air_supervisor r1 r2 supervisor, askAck_answer]
  have effect (v : Half) :
      Ordinary (s.ask .ack).2 ((s.askAck.2.takeNumber r1 (ackAnswer s)).setReg r2 v) [r1, r2] [] :=
    ordinary_setReg (ordinary_takeNumber _ r1 _ (by simp)) (by simp) v
  refine ⟨_, rfl, acknowledged_takesNumber (asked_of_ordinary (effect _)).1 (fun distinct => ?number) _ 2, ?status,
    acknowledge_completes (effect _) (ask_loc s .ack) 2⟩
  case number =>
    rw [reg_setReg, if_neg (Ne.symm (bne_iff_ne.mp distinct)), ← ask_reg s .ack r1]
    exact takeNumber_reg _ r1 _
  case status => rw [State.advance_reg, acknowledged_reg, State.setStatusCC_reg, reg_setReg_self, zextByte_eq_append]

theorem ai_acknowledges (supervisor : s.prot = false) (ready : ByteReady s s.obank (s.sum a x2)) :
    let st := statusByte (ackAnswer s)
    ∃ t, exec (.ai r1 x2 a) s = .next t ∧ TakesNumber s t r1 true ∧ t.byteAt s.obank (s.sum a x2) = st ∧
      t.cc = st.extractLsb' 0 4 ∧ t.loc = s.loc + 4 ∧ Frame s t [r1] [(s.obank, s.sum a x2)] ∧ Asked s t .ack := by
  have written := writeByte_ready (statusByte (ackAnswer s)) ((byteReady_congr
    ((takeNumber_platform s.askAck.2 r1 (ackAnswer s)).trans (askAck_platform s)) _ _).mpr ready)
  simp only [exec_ai_supervisor r1 x2 a supervisor, askAck_answer, written, attempt_ok]
  have effect : Ordinary (s.ask .ack).2
      ((s.askAck.2.takeNumber r1 (ackAnswer s)).putByte s.obank (s.sum a x2) (statusByte (ackAnswer s)))
      [r1] ([] ++ [(s.obank, s.sum a x2)]) :=
    ordinary_append (ordinary_takeNumber _ r1 _ (List.mem_singleton_self r1)) (ordinary_putByte _ _ _ _ [r1])
  refine ⟨_, rfl, acknowledged_takesNumber (asked_of_ordinary effect).1 (fun _ => ?number) _ 4, ?status,
    acknowledge_completes effect (ask_loc s .ack) 4⟩
  case number =>
    rw [State.putByte_reg, ← ask_reg s .ack r1]
    exact takeNumber_reg _ r1 _
  case status => rw [State.advance_byteAt, acknowledged_byteAt, State.setStatusCC_byteAt, byteAt_putByte_self]

end

/-! The statements -/

/-- Settles O40: an acknowledge is a request, the number to R1, the status and the end of the request; a sense is a
request and the status. -/
theorem acknowledgeAndSense : Obligations.AcknowledgeAndSense := by
  unfold Obligations.AcknowledgeAndSense
  intro s r1 r2 x2 a2 supervisor a st timeout ackStatus number
  have status : ackStatus = statusByte (ackAnswer s) := (statusByte_ackAnswer s).symm
  rw [status]
  exact ⟨air_acknowledges r1 r2 supervisor, ssr_senses r1 r2 supervisor,
    fun ready => ⟨ai_acknowledges supervisor ready, ss_senses supervisor ready⟩⟩

/-- Settles O41: the destination is written unless the device times out. -/
theorem dataReads : Obligations.DataReads := by
  unfold Obligations.DataReads
  exact fun s r1 r2 x2 a2 supervisor => ⟨rdr_reads r1 r2 supervisor, rhr_reads r1 r2 supervisor,
    rd_reads supervisor, rh_reads supervisor⟩

/-- Settles O42: each sends one request; the storage forms first read their operand. -/
theorem commandsAndDataWrites : Obligations.CommandsAndDataWrites := by
  unfold Obligations.CommandsAndDataWrites
  intro s r1 r2 x2 a2 supervisor a d b sends
  have run (len : Half) (k : Result) : privileged len s k = k := privileged_supervisor k supervisor
  refine ⟨sends_of_next (run 2 _) (sendCommand_eq 2 d _ s), sends_of_next (run 2 _) (sendByte_eq 2 d _ s),
    sends_of_next (run 2 _) (sendHalf_eq 2 d _ s),
    fun ready => ⟨sends_of_next ?oc (sendCommand_eq 4 d b s), sends_of_next ?wd (sendByte_eq 4 d b s)⟩,
    fun ready => sends_of_next ?wh (sendHalf_eq 4 d _ s)⟩
  case oc | wd => exact (run 4 _).trans (attempt_operandByte_ready ready _)
  case wh => exact (run 4 _).trans (attempt_operandHalf_ready ready _)

end Sys2Proof.Proofs
end

section
/-! Block transfer (47_io_and_list.md R373, R378 to R382): what a run of bytes read or written gives and leaves alone,
the condition of a transfer, and from that the block instructions and Autoload. -/

namespace Sys2Proof.Proofs

open Sys2Proof.Machine Sys2Proof.Safety

section

variable {s t u : State} {b c : Bank} {e f : Half} {r1 r2 x2 : Reg} {a start stop len : Half} {q : DeviceRequest}
  {regs : List Reg} {bytes : List (Bank × Half)} {i : Instr}

/-! A run of bytes in a bank (20_memory.md R79) -/

theorem byteAddress_succ (e : Half) (k : Nat) : e + 1 + BitVec.ofNat 16 k = e + BitVec.ofNat 16 (k + 1) := by
  rw [Nat.add_comm k, BitVec.ofNat_add, BitVec.add_assoc]; rfl

/-- The bytes from `e` on are the one at `e` and those from `e + 1` on. -/
theorem bytesReady_succ (n : Nat) :
    (∀ k < n + 1, ByteReady s b (e + BitVec.ofNat 16 k)) ↔
      ByteReady s b e ∧ ∀ k < n, ByteReady s b (e + 1 + BitVec.ofNat 16 k) := by
  rw [Nat.forall_lt_succ_left]
  simp only [byteAddress_succ, BitVec.add_zero]

theorem byteRange_succ (b : Bank) (e : Half) (n : Nat) : byteRange b e (n + 1) = [(b, e)] ++ byteRange b (e + 1) n := by
  simp only [byteRange, List.range_succ_eq_map, List.map_cons, List.map_map, Function.comp_def, Nat.succ_eq_add_one,
    byteAddress_succ, BitVec.add_zero, List.singleton_append]

/-- A run that does not come round to its own start leaves the byte before it alone. -/
theorem start_notMem_byteRange_behind {n : Nat} (fits : n + 1 ≤ 65536) : (b, e) ∉ byteRange b (e + 1) n := by
  rw [mem_byteRange_iff]
  rintro ⟨-, below⟩
  bv_omega

/-- The `n` bytes from `e` on, whatever is installed there; `readBytes` answers them where it does not fault. -/
def bytesFrom (s : State) (b : Bank) (e : Half) (n : Nat) : List Byte :=
  (List.range n).map fun k => s.byteAt b (e + BitVec.ofNat 16 k)

theorem bytesFrom_succ (s : State) (b : Bank) (e : Half) (n : Nat) :
    bytesFrom s b e (n + 1) = s.byteAt b e :: bytesFrom s b (e + 1) n := by
  simp only [bytesFrom, List.range_succ_eq_map, List.map_cons, List.map_map, Function.comp_def, Nat.succ_eq_add_one,
    byteAddress_succ, BitVec.add_zero]

theorem readBytes_ready {n : Nat} (ready : ∀ k < n, ByteReady s b (e + BitVec.ofNat 16 k)) :
    s.readBytes b e n = .ok (bytesFrom s b e n) := by
  induction n generalizing e with
  | zero => rfl
  | succ n ih =>
    obtain ⟨first, rest⟩ := (bytesReady_succ n).mp ready
    simp only [State.readBytes, readByte_ready first, ih rest, Except.map, bytesFrom_succ]

/-- Bytes stored one after the other; `writeBytes` answers it where it does not fault. -/
def putBytes (s : State) (b : Bank) (e : Half) : List Byte → State
  | [] => s
  | v :: vs => putBytes (s.putByte b e v) b (e + 1) vs

theorem writeBytes_ready {vs : List Byte} (ready : ∀ k < vs.length, ByteReady s b (e + BitVec.ofNat 16 k)) :
    s.writeBytes b e vs = .ok (putBytes s b e vs) := by
  induction vs generalizing s e with
  | nil => rfl
  | cons v vs ih =>
    obtain ⟨first, rest⟩ := (bytesReady_succ vs.length).mp ready
    have later := ih (s := s.putByte b e v) fun k below =>
      (byteReady_congr (State.putByte_platform s b e v) _ _).mpr (rest k below)
    simp only [State.writeBytes, writeByte_ready v first, later, putBytes]

/-- Successive stores change the bytes of their run and nothing else. -/
theorem putBytes_ordinary (s : State) (b : Bank) (e : Half) (vs : List Byte) :
    Ordinary s (putBytes s b e vs) [] (byteRange b e vs.length) := by
  induction vs generalizing s e with
  | nil => exact ordinary_refl s [] _
  | cons v vs ih => exact byteRange_succ b e vs.length ▸ ordinary_append (ordinary_putByte s b e v []) (ih _ _)

theorem putBytes_loc (s : State) (b : Bank) (e : Half) (vs : List Byte) : (putBytes s b e vs).loc = s.loc := by
  induction vs generalizing s e with
  | nil => rfl
  | cons v vs ih => exact ih _ _

/-- Each byte is read back where it was stored, as long as the run does not overwrite its own start. -/
theorem byteAt_putBytes {vs : List Byte} (fits : vs.length ≤ 65536) {k : Nat} (below : k < vs.length) :
    (putBytes s b e vs).byteAt b (e + BitVec.ofNat 16 k) = vs[k] := by
  induction vs generalizing s e k with
  | nil => cases below
  | cons v vs ih =>
    cases k with
    | succ k =>
      rw [← byteAddress_succ]
      exact ih (Nat.le_of_succ_le fits) (Nat.lt_of_succ_lt_succ below)
    | zero =>
      have kept := (putBytes_ordinary (s.putByte b e v) b (e + 1) vs).frame.memory b e
        (start_notMem_byteRange_behind fits)
      calc (putBytes s b e (v :: vs)).byteAt b (e + BitVec.ofNat 16 0)
          = (putBytes (s.putByte b e v) b (e + 1) vs).byteAt b e := by rw [BitVec.ofNat_eq_ofNat, BitVec.add_zero]; rfl
        _ = v := kept.trans (byteAt_putByte_self s b e v)

/-- The part of a device's data that a block of `n` bytes takes is stored where the block lies. -/
theorem byteAt_putBytes_take {n : Nat} (fits : n ≤ 65536) {data : List Byte} :
    ∀ k < min n data.length,
      some ((putBytes s b e (data.take n)).byteAt b (e + BitVec.ofNat 16 k)) = data[k]? := by
  intro k below
  have length : (data.take n).length = min n data.length := List.length_take
  rw [byteAt_putBytes (length ▸ (Nat.min_le_left ..).trans fits) (length.symm ▸ below), List.getElem_take,
    List.getElem?_eq_getElem]

/-! The condition of a transfer (R361; log 32) -/

theorem ordinary_of_blockEnd (h : Ordinary s u regs bytes) (cc : BitVec 4) (len : Half) :
    Ordinary s (((u.setCC cc).drawn 1).advance len) regs bytes :=
  ordinary_advance (ordinary_drawn (ordinary_setCC h cc) 1) len

/-- A condition the transfer has to give itself is not zero. -/
theorem blockCondition_ne_zero (u : State) (cc : BitVec 4) : u.blockCondition cc false ≠ 0 := by
  unfold State.blockCondition
  split
  case isTrue given => simpa using given
  case isFalse =>
    dsimp only
    split
    · decide
    · assumption

theorem blockCondition_given {u : State} {cc : BitVec 4} {complete : Bool} (given : complete = true ∨ cc ≠ 0) :
    u.blockCondition cc complete = cc := if_pos (by simpa using given)

/-- The end of a block transfer whose effect, after the request, was ordinary. -/
theorem block_completes {complete : Bool} {P : Prop} (effect : Ordinary (s.ask q).2 u regs bytes) (loc : u.loc = s.loc)
    (holds : complete = true ↔ P) (len : Half) :
    let d := answerTo s
    let t := ((u.setCC (u.blockCondition d.cc complete)).drawn 1).advance len
    BlockCondition t d P ∧ t.loc = s.loc + len ∧ t.pending = s.pending ∧ Frame s t regs bytes ∧ Asked s t q := by
  refine ⟨⟨fun full => ?full, fun short => ⟨?short, fun given => ?given⟩⟩, congrArg (· + len) loc,
    asked_of_ordinary (ordinary_of_blockEnd effect _ len)⟩
  case full => exact blockCondition_given (.inl (holds.mpr full))
  case short =>
    have incomplete : complete = false := Bool.eq_false_iff.mpr (mt holds.mp short)
    exact incomplete ▸ blockCondition_ne_zero u _
  case given => exact blockCondition_given (.inr given)

/-- The data was complete when as many bytes were stored as the block holds. -/
theorem take_complete_iff (n : Nat) (data : List Byte) : ((data.take n).length == n) = true ↔ n ≤ data.length := by
  rw [beq_iff_eq, List.length_take, min_eq_left_iff]

/-- A device's data stored as far as the block goes: what it stores and leaves alone, and its condition. -/
theorem storesBlock {n : Nat} (b : Bank) (e : Half) (data : List Byte) (fits : n ≤ 65536) (q : DeviceRequest)
    (len : Half) :
    let d := answerTo s
    let u := putBytes (s.ask q).2 b e (data.take n)
    let t := ((u.setCC (u.blockCondition d.cc ((data.take n).length == n))).drawn 1).advance len
    (∀ k < min n data.length, some (t.byteAt b (e + BitVec.ofNat 16 k)) = data[k]?) ∧
      BlockCondition t d (n ≤ data.length) ∧ t.loc = s.loc + len ∧ t.pending = s.pending ∧
      Frame s t [] (byteRange b e (min n data.length)) ∧ Asked s t q := by
  have stored := putBytes_ordinary (s.ask q).2 b e (data.take n)
  rw [List.length_take] at stored
  exact ⟨byteAt_putBytes_take fits,
    block_completes stored ((putBytes_loc _ b e _).trans (ask_loc s q)) (take_complete_iff n data) len⟩

/-- Memory for the block is memory for the part that the device's data fills. -/
theorem writeBytes_ask_ready {n : Nat} (q : DeviceRequest) (data : List Byte)
    (ready : ∀ k < n, ByteReady s b (e + BitVec.ofNat 16 k)) :
    (s.ask q).2.writeBytes b e (data.take n) = .ok (putBytes (s.ask q).2 b e (data.take n)) :=
  writeBytes_ready fun k below => (byteReady_congr (ask_platform s q) _ _).mpr
    (ready k (below.trans_le (List.length_take_le n data)))

/-! Blocks between two limits (R378 to R382) -/

theorem blockLength_eq (ordered : ¬stop.toNat < start.toNat) :
    blockLength start stop = stop.toNat + 1 - start.toNat := by
  unfold blockLength; omega

theorem readBlock_empty (empty : stop.toNat < start.toNat) (d : Byte) :
    readBlock len d start stop s = .next ((s.setCC 0).advance len) := if_pos empty

theorem writeBlock_empty (empty : stop.toNat < start.toNat) (d : Byte) :
    writeBlock len d start stop s = .next ((s.setCC 0).advance len) := if_pos empty

theorem emptyBlock_ordinary (s : State) (len : Half) : Ordinary s ((s.setCC 0).advance len) [] [] :=
  ordinary_advance (ordinary_setCC (ordinary_refl s [] []) 0) len

theorem readBlock_reads {n : Nat} {d : Byte} (size : n = stop.toNat + 1 - start.toNat) (nonempty : 0 < n)
    (ready : ∀ k < n, ByteReady s s.obank (start + BitVec.ofNat 16 k)) :
    let a := answerTo s
    ∃ t, readBlock len d start stop s = .next t ∧
      (∀ k < min n a.bytes.length, some (t.byteAt s.obank (start + BitVec.ofNat 16 k)) = a.bytes[k]?) ∧
      BlockCondition t a (n ≤ a.bytes.length) ∧ t.loc = s.loc + len ∧ t.pending = s.pending ∧
      Frame s t [] (byteRange s.obank start (min n a.bytes.length)) ∧ Asked s t (.blockIn d n) := by
  have ordered : ¬stop.toNat < start.toNat := by omega
  have length : blockLength start stop = n := (blockLength_eq ordered).trans size.symm
  have fits : n ≤ 65536 := by omega
  simp only [readBlock, if_neg ordered, length, ask_answer, writeBytes_ask_ready _ _ ready, attempt_ok]
  exact ⟨_, rfl, storesBlock s.obank start _ fits _ len⟩

theorem writeBlock_writes {n : Nat} {d : Byte} (size : n = stop.toNat + 1 - start.toNat) (nonempty : 0 < n)
    (ready : ∀ k < n, ByteReady s s.obank (start + BitVec.ofNat 16 k)) :
    let a := answerTo s
    ∃ t, writeBlock len d start stop s = .next t ∧ BlockCondition t a (n ≤ a.accepted) ∧ t.loc = s.loc + len ∧
      t.pending = s.pending ∧ Frame s t [] [] ∧ Asked s t (.blockOut d (bytesFrom s s.obank start n)) := by
  have ordered : ¬stop.toNat < start.toNat := by omega
  have length : blockLength start stop = n := (blockLength_eq ordered).trans size.symm
  simp only [writeBlock, if_neg ordered, length, ask_answer, readBytes_ready ready, attempt_ok]
  exact ⟨_, rfl, block_completes (ordinary_refl _ [] []) (ask_loc s _) decide_eq_true_iff len⟩

theorem withLimits_ready (first : HalfReady s s.obank e) (second : HalfReady s s.obank (e + 2))
    (k : Half → Half → Result) : withLimits e s k = k (s.halfAt s.obank e) (s.halfAt s.obank (e + 2)) :=
  (attempt_of_ok (readHalf_ready first) _).trans (attempt_of_ok (readHalf_ready second) _)

/-- The two forms of a block instruction and the limits each takes: the register form in R2 and R2 + 1, the storage form
in two halfwords (R378 to R381). -/
def BlockForm (s : State) (register storage i : Instr) (r2 x2 : Reg) (a start stop len : Half) : Prop :=
  (i = register ∧ r2.val ≤ 14 ∧ len = 2 ∧ start = s.reg r2 ∧ stop = s.reg (r2 + 1)) ∨
    (i = storage ∧ len = 4 ∧ HalfReady s s.obank (s.sum a x2) ∧ HalfReady s s.obank (s.sum a x2 + 2) ∧
      start = s.halfAt s.obank (s.sum a x2) ∧ stop = s.halfAt s.obank (s.sum a x2 + 2))

/-- Either form runs the same operation `k` of its length and its limits. -/
theorem exec_of_blockForm {register storage : Instr} {k : Half → Half → Half → Result}
    (form : BlockForm s register storage i r2 x2 a start stop len)
    (registers : exec register s = atMost 14 r2 (k 2 (s.reg r2) (s.reg (r2 + 1))))
    (halfwords : exec storage s = withLimits (s.sum a x2) s (k 4)) : exec i s = k len start stop := by
  rcases form with ⟨rfl, within, rfl, rfl, rfl⟩ | ⟨rfl, rfl, first, second, rfl, rfl⟩
  · exact registers.trans (atMost_within within _)
  · exact halfwords.trans (withLimits_ready first second _)

theorem exec_blockRead (supervisor : s.prot = false)
    (form : BlockForm s (.rbr r1 r2) (.rb r1 x2 a) i r2 x2 a start stop len) :
    exec i s = readBlock len (s.device r1) start stop s :=
  exec_of_blockForm (k := fun len start stop => readBlock len _ start stop s) form
    (privileged_supervisor _ supervisor) (privileged_supervisor _ supervisor)

theorem exec_blockWrite (supervisor : s.prot = false)
    (form : BlockForm s (.wbr r1 r2) (.wb r1 x2 a) i r2 x2 a start stop len) :
    exec i s = writeBlock len (s.device r1) start stop s :=
  exec_of_blockForm (k := fun len start stop => writeBlock len _ start stop s) form
    (privileged_supervisor _ supervisor) (privileged_supervisor _ supervisor)

/-! Autoload (R373) -/

theorem autoloadLength_eq (last : Half) :
    autoloadLength last = if last.toNat < 0x80 then 1 else last.toNat - 0x7F := by
  unfold autoloadLength; split <;> omega

theorem autoloadLength_le (last : Half) : autoloadLength last ≤ 65536 := by
  unfold autoloadLength; split <;> omega

theorem al_loads (supervisor : s.prot = false) (zero : r1 = 0) (device : ByteReady s 0 0x0078)
    (command : ByteReady s 0 0x0079)
    (ready : ∀ k < autoloadLength (s.sum a x2), ByteReady s 0 (0x80 + BitVec.ofNat 16 k)) :
    let n := autoloadLength (s.sum a x2)
    let d := answerTo s
    let data := d.bytes.dropWhile (· == 0)
    ∃ t, exec (.al r1 x2 a) s = .next t ∧
      (∀ k < min n data.length, some (t.byteAt 0 (0x80 + BitVec.ofNat 16 k)) = data[k]?) ∧
      BlockCondition t d (n ≤ data.length) ∧ t.loc = s.loc + 4 ∧ t.pending = s.pending ∧
      Frame s t [] (byteRange 0 0x80 (min n data.length)) ∧
      Asked s t (.autoload (s.byteAt 0 0x0078) (s.byteAt 0 0x0079) n) := by
  have run : exec (.al r1 x2 a) s = execAl r1 x2 a s := rfl
  simp only [run, execAl, privileged_supervisor _ supervisor, zeroField_zero zero, readByte_ready device,
    readByte_ready command, ask_answer, writeBytes_ask_ready _ _ ready, attempt_ok]
  exact ⟨_, rfl, storesBlock 0 0x80 _ (autoloadLength_le _) _ 4⟩

end

/-! The statements -/

/-- Settles O43: both forms are one block read between their limits. -/
theorem blockReads : Obligations.BlockReads := by
  unfold Obligations.BlockReads
  intro s r1 r2 x2 a2 start stop len i supervisor
  refine ⟨privileged_supervisor _ supervisor, fun form => ?_⟩
  rw [exec_blockRead supervisor form]
  exact ⟨fun empty => ⟨_, readBlock_empty (by omega) _, rfl, rfl, emptyBlock_ordinary s len⟩, readBlock_reads rfl⟩

/-- Settles O44: both forms are one block write between their limits. -/
theorem blockWrites : Obligations.BlockWrites := by
  unfold Obligations.BlockWrites
  intro s r1 r2 x2 a2 start stop len i supervisor
  refine ⟨privileged_supervisor _ supervisor, fun form => ?_⟩
  rw [exec_blockWrite supervisor form]
  exact ⟨fun empty => ⟨_, writeBlock_empty (by omega) _, rfl, rfl, emptyBlock_ordinary s len⟩, writeBlock_writes rfl⟩

/-- Settles O45: a block read from X'80' of bank 0, without the leader. -/
theorem autoload : Obligations.Autoload := by
  unfold Obligations.Autoload
  intro s r1 x2 a2 supervisor
  rw [← autoloadLength_eq]
  exact ⟨fun nonzero => (privileged_supervisor _ supervisor).trans (zeroField_nonzero nonzero _),
    al_loads supervisor⟩

end Sys2Proof.Proofs
end

section
/-! List processing (47_io_and_list.md section 6, R390 to R394): the parameters of a circular list, the bytes its slots
and its parameters take, and from that adding and removing an element. -/

namespace Sys2Proof.Proofs

open Sys2Proof.Machine Sys2Proof.Safety

section

variable {s u : State} {r1 x2 : Reg} {a a2 pointer : Half} {h : ListHead} {p used value : Byte}

/-! Pointers in a ring (R391 to R394) -/

theorem consistent_iff (h : ListHead) :
    h.consistent = true ↔ h.used.toNat ≤ h.slots.toNat ∧
      (h.slots = 0 ∨ h.top.toNat < h.slots.toNat ∧ h.bottom.toNat < h.slots.toNat) := by
  simp [ListHead.consistent]

/-- A list with a free slot or with one in use has slots, and its pointers are below their number. -/
theorem pointers_inside (consistent : h.consistent = true) (inUse : h.used ≠ h.slots ∨ h.used ≠ 0) :
    h.top.toNat < h.slots.toNat ∧ h.bottom.toNat < h.slots.toNat := by
  obtain ⟨tally, inside⟩ := (consistent_iff h).mp consistent
  refine inside.resolve_left fun none => ?_
  rw [none] at tally inUse
  have unused : h.used = 0 := BitVec.eq_of_toNat_eq (Nat.le_zero.mp tally)
  exact inUse.elim (· unused) (· unused)

/-- From a slot of the ring, the pointer wraps at the last one only. -/
theorem up_eq_ringUp (inside : p.toNat < h.slots.toNat) : h.up p = ringUp h.slots p := by
  have wraps : h.slots.toNat - 1 < p.toNat + 1 ↔ p.toNat + 1 = h.slots.toNat := by omega
  rw [ListHead.up, ringUp, if_congr wraps rfl rfl]

/-! The parameter bytes (R390) -/

theorem forall_parameter_iff {P : Half → Prop} :
    (∀ k < 4, P (a + BitVec.ofNat 16 k)) ↔ P a ∧ P (a + 1) ∧ P (a + 2) ∧ P (a + 3) := by
  have first : a + BitVec.ofNat 16 0 = a := BitVec.add_zero a
  constructor
  · exact fun all => ⟨first ▸ all 0 (by decide), all 1 (by decide), all 2 (by decide), all 3 (by decide)⟩
  · rintro ⟨slots, used, top, bottom⟩ k below
    match k, below with
    | 0, _ => exact first.symm ▸ slots
    | 1, _ => exact used
    | 2, _ => exact top
    | 3, _ => exact bottom

/-- What a list instruction does once its four parameter bytes are read. -/
theorem withList_run (even : a.getLsbD 0 = false) (ready : ∀ k < 4, ByteReady s s.obank (a + BitVec.ofNat 16 k))
    (k : ListHead → Result) :
    withList a s k = if (listHead s a).consistent then k (listHead s a) else .refused .listInconsistent := by
  obtain ⟨slots, used, top, bottom⟩ := forall_parameter_iff.mp ready
  rw [withList, if_neg (ne_true_of_eq_false even), readByte_ready slots, attempt_ok, readByte_ready used, attempt_ok,
    readByte_ready top, attempt_ok, readByte_ready bottom, attempt_ok, listHead]

theorem withList_ready (ready : ListReady s a) (k : ListHead → Result) : withList a s k = k (listHead s a) :=
  (withList_run ready.1 ready.2.1 k).trans (if_pos ready.2.2)

/-- A list whose address or parameters stop every list instruction. -/
theorem withList_stops (k : ListHead → Result) :
    (a.getLsbD 0 = true → withList a s k = .fault .misaligned) ∧
      (a.getLsbD 0 = false → (∀ k < 4, ByteReady s s.obank (a + BitVec.ofNat 16 k)) →
        (listHead s a).consistent = false → withList a s k = .refused .listInconsistent) :=
  ⟨(withList_needs k).1,
    fun even ready inconsistent => (withList_run even ready k).trans (if_neg (ne_true_of_eq_false inconsistent))⟩

/-! The tally and a pointer stored -/

/-- The tally and the pointer byte at `a + pointer` stored. -/
def storeTally (s : State) (a pointer : Half) (used value : Byte) : State :=
  (s.putByte s.obank (a + 1) used).putByte s.obank (a + pointer) value

/-- The parameters with the tally and the pointer at offset `pointer` replaced. -/
def replaceTally (h : ListHead) (pointer : Half) (used value : Byte) : ListHead :=
  { h with used := used, top := if pointer = 2 then value else h.top,
           bottom := if pointer = 3 then value else h.bottom }

theorem storeTally_ordinary (s : State) (a pointer : Half) (used value : Byte) (regs : List Reg) :
    Ordinary s (storeTally s a pointer used value) regs [(s.obank, a + 1), (s.obank, a + pointer)] :=
  ordinary_append (ordinary_putByte s s.obank (a + 1) used regs) (ordinary_putByte _ s.obank (a + pointer) value regs)

theorem listHead_storeTally (s : State) (a : Half) (used value : Byte) (which : pointer = 2 ∨ pointer = 3) :
    listHead (storeTally s a pointer used value) a = replaceTally (listHead s a) pointer used value := by
  rcases which with rfl | rfl <;> simp [listHead, storeTally, replaceTally, byteAt_putByte]

/-- Both stores find memory where the list does; `u` is the state the instruction has reached. -/
theorem attempt_storeTally (ready : ListReady s a) (which : pointer = 2 ∨ pointer = 3)
    (platform : u.platform = s.platform) (bank : s.obank = u.obank) (k : State → Result) :
    (attempt (u.writeByte s.obank (a + 1) used) fun t => attempt (t.writeByte s.obank (a + pointer) value) k) =
      k (storeTally u a pointer used value) := by
  obtain ⟨-, tally, top, bottom⟩ := forall_parameter_iff.mp ready.2.1
  have second : ByteReady s s.obank (a + pointer) := by rcases which with rfl | rfl <;> assumption
  have later : ByteReady (u.putByte s.obank (a + 1) used) s.obank (a + pointer) :=
    (byteReady_congr platform _ _).mpr second
  rw [writeByte_ready used ((byteReady_congr platform _ _).mpr tally), attempt_ok, writeByte_ready value later,
    attempt_ok, storeTally, bank]

/-! Slots (R390) -/

theorem slotAddress_eq_slotAt (a : Half) (p : Byte) : slotAddress a p = slotAt a p := by
  rw [slotAddress, slotAt, zextByte]
  bv_omega

/-- A slot lies behind the four parameter bytes and does not come round to them. -/
theorem slotAt_ne_parameter (a : Half) (p : Byte) {d : Half} (parameter : d.toNat < 4) :
    slotAt a p ≠ a + d ∧ slotAt a p + 1 ≠ a + d := by
  unfold slotAt
  constructor <;> bv_omega

theorem listHead_putSlot (s : State) (a : Half) (p : Byte) (v : Half) :
    listHead (s.putHalf s.obank (slotAt a p) v) a = listHead s a := by
  have kept (d : Half) (parameter : d.toNat < 4) :
      (s.putHalf s.obank (slotAt a p) v).byteAt s.obank (a + d) = s.byteAt s.obank (a + d) := by
    obtain ⟨high, low⟩ := slotAt_ne_parameter a p parameter
    rw [byteAt_putHalf, if_neg fun same => low same.2, if_neg fun same => high same.2]
  have slots := kept 0 (by decide)
  rw [BitVec.ofNat_eq_ofNat, BitVec.add_zero] at slots
  rw [listHead, State.putHalf_obank, slots, kept 1 (by decide), kept 2 (by decide), kept 3 (by decide), listHead]

/-- The slots lie outside what storing the tally and a pointer writes. -/
theorem halfAt_slot_storeTally (s : State) (a : Half) (p used value : Byte) (which : pointer = 2 ∨ pointer = 3) :
    (storeTally s a pointer used value).halfAt s.obank (slotAt a p) = s.halfAt s.obank (slotAt a p) := by
  have parameter : pointer.toNat < 4 := by rcases which with rfl | rfl <;> decide
  have tally := slotAt_ne_parameter a p (d := 1) (by decide)
  have other := slotAt_ne_parameter a p parameter
  have outside {f : Half} (first : f ≠ a + 1) (second : f ≠ a + pointer) :
      (s.obank, f) ∉ [(s.obank, a + 1), (s.obank, a + pointer)] := by
    simp only [List.mem_cons, Prod.mk.injEq, true_and, List.not_mem_nil, or_false, not_or]
    exact ⟨first, second⟩
  exact halfAt_of_frame (storeTally_ordinary s a pointer used value []).frame (outside tally.1 other.1)
    (outside tally.2 other.2)

/-! Adding and removing -/

/-- A full list on an add, or an empty one on a remove (R391, R393). -/
theorem listFails_fails (s : State) :
    ∃ t, listFails s = .next t ∧ t.cc = 4 ∧ t.loc = s.loc + 4 ∧ Ordinary s t [] [] :=
  ⟨_, rfl, rfl, rfl, ordinary_advance (ordinary_setCC (ordinary_refl s [] []) _) 4⟩

theorem listAdd_next (ready : ListReady s a) (slot : HalfReady s s.obank (slotAt a p))
    (which : pointer = 2 ∨ pointer = 3) :
    listAdd a r1 p used pointer value s =
      .next (((storeTally (s.putHalf s.obank (slotAt a p) (s.reg r1)) a pointer used value).setCC 0).advance 4) := by
  rw [listAdd, slotAddress_eq_slotAt, writeHalf_ready _ slot, attempt_ok]
  exact attempt_storeTally (u := s.putHalf s.obank _ _) ready which rfl rfl _

theorem listAdd_adds (ready : ListReady s a) (slot : HalfReady s s.obank (slotAt a p))
    (which : pointer = 2 ∨ pointer = 3) :
    ∃ t, listAdd a r1 p used pointer value s = .next t ∧ t.halfAt s.obank (slotAt a p) = s.reg r1 ∧
      listHead t a = replaceTally (listHead s a) pointer used value ∧ t.cc = 0 ∧ t.loc = s.loc + 4 ∧
      Ordinary s t [] (halfBytes s.obank (slotAt a p) ++ [(s.obank, a + 1), (s.obank, a + pointer)]) := by
  have stored := ordinary_append (ordinary_putHalf s s.obank (slotAt a p) (s.reg r1) [])
    (storeTally_ordinary _ a pointer used value [])
  refine ⟨_, listAdd_next ready slot which, ?element, ?head, rfl, rfl, ordinary_advance (ordinary_setCC stored 0) 4⟩
  case element => exact (halfAt_slot_storeTally _ a p used value which).trans (halfAt_putHalf_self s _ _ _)
  case head =>
    exact (listHead_storeTally _ a used value which).trans
      (congrArg (replaceTally · pointer used value) (listHead_putSlot s a p _))

theorem listRemove_next (ready : ListReady s a) (slot : HalfReady s s.obank (slotAt a p))
    (which : pointer = 2 ∨ pointer = 3) :
    listRemove a r1 p used pointer value s =
      .next (((storeTally (s.setReg r1 (s.halfAt s.obank (slotAt a p))) a pointer used value).setCC
        (ccOf false false (used != 0) false)).advance 4) := by
  rw [listRemove, slotAddress_eq_slotAt, readHalf_ready slot, attempt_ok]
  exact attempt_storeTally (u := s.setReg r1 _) ready which rfl rfl _

theorem listRemove_removes (ready : ListReady s a) (slot : HalfReady s s.obank (slotAt a p))
    (which : pointer = 2 ∨ pointer = 3) :
    ∃ t, listRemove a r1 p used pointer value s = .next t ∧ t.reg r1 = s.halfAt s.obank (slotAt a p) ∧
      listHead t a = replaceTally (listHead s a) pointer used value ∧ t.cc = ccOf false false (used != 0) false ∧
      t.loc = s.loc + 4 ∧ Ordinary s t [r1] [(s.obank, a + 1), (s.obank, a + pointer)] := by
  have stored := ordinary_append (ordinary_setReg_self s r1 (s.halfAt s.obank (slotAt a p)))
    (storeTally_ordinary _ a pointer used value [r1])
  exact ⟨_, listRemove_next ready slot which, reg_setReg_self s r1 _, listHead_storeTally _ a used value which, rfl,
    rfl, ordinary_advance (ordinary_setCC stored _) 4⟩

/-- G tells that the list is not empty after one more element left it (R393). -/
theorem removed_condition (used : Byte) :
    ccOf false false (used - 1 != 0) false = if used = 1 then 0 else 2 := by
  by_cases last : used = 1
  · rw [if_pos last, last]; rfl
  · have remaining : (used - 1 != 0) = true := bne_iff_ne.mpr (sub_ne_zero.mpr last)
    rw [if_neg last, remaining]; rfl

/-! The instructions -/

theorem exec_atl (r1 x2 : Reg) (a2 : Half) (s : State) :
    exec (.atl r1 x2 a2) s = withList (s.sum a2 x2) s fun h =>
      if h.used = h.slots then listFails s
      else listAdd (s.sum a2 x2) r1 (ringDown h.slots h.top) (h.used + 1) 2 (ringDown h.slots h.top) s := rfl

theorem exec_abl (r1 x2 : Reg) (a2 : Half) (s : State) :
    exec (.abl r1 x2 a2) s = withList (s.sum a2 x2) s fun h =>
      if h.used = h.slots then listFails s
      else listAdd (s.sum a2 x2) r1 h.bottom (h.used + 1) 3 (h.up h.bottom) s := rfl

theorem exec_rtl (r1 x2 : Reg) (a2 : Half) (s : State) :
    exec (.rtl r1 x2 a2) s = withList (s.sum a2 x2) s fun h =>
      if h.used = 0 then listFails s
      else listRemove (s.sum a2 x2) r1 h.top (h.used - 1) 2 (h.up h.top) s := rfl

theorem exec_rbl (r1 x2 : Reg) (a2 : Half) (s : State) :
    exec (.rbl r1 x2 a2) s = withList (s.sum a2 x2) s fun h =>
      if h.used = 0 then listFails s
      else listRemove (s.sum a2 x2) r1 (ringDown h.slots h.bottom) (h.used - 1) 3 (ringDown h.slots h.bottom) s := rfl

end

/-! The statements -/

/-- Settles O46: the slot, the tally and one pointer byte are written. -/
theorem listAdds : Obligations.ListAdds := by
  unfold Obligations.ListAdds
  intro s r1 x2 a2 a h b down up
  simp only [List.forall_mem_cons, List.not_mem_nil, false_implies, implies_true, and_true]
  refine ⟨fun ready full => ?full, fun ready free slot => ?atl, fun ready free slot => ?abl,
    ?stops⟩
  case full =>
    rw [exec_atl, exec_abl, withList_ready ready, withList_ready ready, if_pos full, if_pos full]
    exact ⟨listFails_fails s, listFails_fails s⟩
  case atl =>
    rw [exec_atl, withList_ready ready, if_neg free]
    exact listAdd_adds ready slot (.inl rfl)
  case abl =>
    rw [exec_abl, withList_ready ready, if_neg free, up_eq_ringUp (pointers_inside ready.2.2 (.inl free)).2]
    exact listAdd_adds ready slot (.inr rfl)
  case stops =>
    rw [exec_atl, exec_abl, exec_rtl, exec_rbl]
    exact ⟨withList_stops _, withList_stops _, withList_stops _, withList_stops _⟩

/-- Settles O47: R1, the tally and one pointer byte are written. -/
theorem listRemoves : Obligations.ListRemoves := by
  unfold Obligations.ListRemoves
  intro s r1 x2 a2 a h b down up
  simp only [List.forall_mem_cons, List.not_mem_nil, false_implies, implies_true, and_true]
  refine ⟨fun ready empty => ?empty, fun ready inUse slot => ?rtl, fun ready inUse slot => ?rbl⟩
  case empty =>
    rw [exec_rtl, exec_rbl, withList_ready ready, withList_ready ready, if_pos empty, if_pos empty]
    exact ⟨listFails_fails s, listFails_fails s⟩
  case rtl =>
    rw [exec_rtl, withList_ready ready, if_neg inUse, up_eq_ringUp (pointers_inside ready.2.2 (.inr inUse)).1,
      ← removed_condition]
    exact listRemove_removes ready slot (.inl rfl)
  case rbl =>
    rw [exec_rbl, withList_ready ready, if_neg inUse, ← removed_condition]
    exact listRemove_removes ready slot (.inr rfl)

end Sys2Proof.Proofs
end

section
/-! Operations refused by name (48_listed_only.md R410, 46_system_control.md R344): what the device service answers where
the platform has none, and from that SINT; the operations of which only a code and a name are given. -/

namespace Sys2Proof.Proofs

open Sys2Proof.Machine

section

variable {s : State} {r1 : Reg}

/-! SINT (R344, 60_exceptions.md R548) -/

theorem deviceService_notSpecified (none : s.platform.service = .notSpecified) (absent : Refusal) (dev : Byte) :
    deviceService absent dev s = .refused absent := by
  simp only [deviceService, none]

/-- In Supervisor Mode the R1 field is looked at first, and the service is asked from the next instruction's address. -/
theorem exec_sint_supervisor (supervisor : s.prot = false) (r1 x2 : Reg) (a : Half) :
    exec (.sint r1 x2 a) s =
      zeroField r1 (deviceService .sintNotSpecified (lowByte (s.sum a x2)) (s.advance 4)) :=
  privileged_supervisor _ supervisor

theorem sint_notSpecified (supervisor : s.prot = false) (zero : r1 = 0)
    (none : s.platform.service = .notSpecified) (x2 : Reg) (a : Half) :
    exec (.sint r1 x2 a) s = .refused .sintNotSpecified := by
  have advanced : (s.advance 4).platform.service = .notSpecified := by rw [State.advance_platform, none]
  rw [exec_sint_supervisor supervisor, zeroField_zero zero, deviceService_notSpecified advanced]

theorem sint_r1MustBeZero (supervisor : s.prot = false) (nonzero : r1 ≠ 0) (x2 : Reg) (a : Half) :
    exec (.sint r1 x2 a) s = .refused .r1MustBeZero := by
  rw [exec_sint_supervisor supervisor, zeroField_nonzero nonzero]

end

/-! The statement -/

/-- Settles O38: each listed-only operation has an arm of its own that reads nothing of the state; SINT goes by its R1
field, then by the platform's service. -/
theorem stopsByName : Obligations.StopsByName := by
  unfold Obligations.StopsByName
  intro s r1 r2 x2 a
  refine ⟨fun i listed => ?listedOnly, fun supervisor => ⟨fun zero none => ?noService, fun nonzero => ?field⟩⟩
  case listedOnly => fin_cases listed <;> rfl
  case noService => exact sint_notSpecified supervisor zero none x2 a
  case field => exact sint_r1MustBeZero supervisor nonzero x2 a

end Sys2Proof.Proofs
end

section
/-! What every instruction of the HMP-1116 keeps (10_state.md R29, 60_exceptions.md R541, R548, R554): the annex machine,
the canonical form of main memory and, unless the instruction is one that may change it, the mode. Each shared operation is
followed once; an instruction keeps what the operations it is made of keep. -/

namespace Sys2Proof.Proofs

open Sys2Proof.Machine Sys2Proof.Safety

/-- What is kept from one state to another: the annex machine, the canonical form of main memory and, unless `free`, the
mode. -/
structure Keeps (free : Prop) (s t : State) : Prop where
  /-- Annex machine. -/
  central : t.central = s.central
  /-- Main memory. -/
  memory : s.mem.wf → t.mem.wf
  /-- PSW bit 7. -/
  mode : free ∨ t.prot = s.prot

/-- A next state, where there is one, keeps that. -/
structure NextKeeps (free : Prop) (s : State) (r : Result) : Prop where
  /-- The next state. -/
  next : ∀ t, r = .next t → Keeps free s t

section

variable {free : Prop} {s t u : State} {b : Bank} {e v len : Half} {r1 r2 x2 : Reg} {a2 : BitVec 18} {k : Result}

/-! States -/

theorem keeps_trans (first : Keeps free s u) (second : Keeps free u t) : Keeps free s t := by
  refine ⟨second.central.trans first.central, fun wf => second.memory (first.memory wf), ?_⟩
  rcases first.mode, second.mode with ⟨changes | same, changes' | same'⟩
  · exact .inl changes
  · exact .inl changes
  · exact .inl changes'
  · exact .inr (same'.trans same)

theorem keeps_same (central : t.central = s.central) (mem : t.mem = s.mem) (prot : t.prot = s.prot) : Keeps free s t :=
  ⟨central, fun wf => mem ▸ wf, .inr prot⟩

/-- Where the mode may change. -/
theorem keeps_changing (changes : free) (central : t.central = s.central) (memory : s.mem.wf → t.mem.wf) :
    Keeps free s t := ⟨central, memory, .inl changes⟩

theorem keeps_writeByte {v : Byte} (written : s.writeByte b e v = .ok t) : Keeps free s t := by
  obtain ⟨rfl, -⟩ := writeByte_ok written
  exact ⟨rfl, putByte_wf s b e v, .inr rfl⟩

theorem keeps_writeHalf (written : s.writeHalf b e v = .ok t) : Keeps free s t := by
  obtain ⟨rfl, -⟩ := writeHalf_ok written
  exact ⟨rfl, putHalf_wf s b e v, .inr rfl⟩

theorem keeps_writeFull {v : Full} (written : s.writeFull b e v = .ok t) : Keeps free s t := by
  obtain ⟨rfl, -⟩ := writeFull_ok written
  exact ⟨rfl, putFull_wf s b e v, .inr rfl⟩

theorem keeps_of_memory (same : t = { s with mem := t.mem }) (wf : s.mem.wf → t.mem.wf) : Keeps free s t :=
  ⟨by rw [same], wf, .inr (by rw [same]; rfl)⟩

theorem keeps_writeHalves {vs : List Half} (written : s.writeHalves b e vs = .ok t) : Keeps free s t :=
  keeps_of_memory (writeHalves_ok vs written).1 (writeHalves_ok vs written).2

theorem keeps_writeBytes {vs : List Byte} (written : s.writeBytes b e vs = .ok t) : Keeps free s t :=
  keeps_of_memory (writeBytes_ok vs written).1 (writeBytes_ok vs written).2

theorem keeps_ask (s : State) (q : DeviceRequest) : Keeps free s (s.ask q).2 := by
  rw [(ask_eq s q).2]
  exact keeps_same rfl rfl rfl

theorem keeps_askAck (s : State) : Keeps free s s.askAck.2 := keeps_ask s .ack

/-- A store that is not made on a time-out. -/
theorem keeps_unless {c : Bool} {r : Except Fault State} (stored : r = .ok t → Keeps free s t)
    (answered : (if c then .ok s else r) = .ok t) : Keeps free s t := by
  cases c with
  | true => cases answered; exact keeps_same rfl rfl rfl
  | false => exact stored answered

theorem keeps_setReg (s : State) (r : Reg) (v : Half) : Keeps free s (s.setReg r v) := keeps_same rfl rfl rfl

theorem keeps_takeNumber (s : State) (r : Reg) (x : DeviceAnswer) : Keeps free s (s.takeNumber r x) :=
  keeps_same rfl rfl rfl

/-- A register that is not written on a time-out. -/
theorem keeps_unless_setReg (c : Bool) (s : State) (r : Reg) (v : Half) :
    Keeps free s (if c then s else s.setReg r v) := by
  cases c
  · exact keeps_same rfl rfl rfl
  · exact keeps_same rfl rfl rfl

theorem keeps_advance (s : State) (n : Half) : Keeps free s (s.advance n) := keeps_same rfl rfl rfl

theorem keeps_drawn (s : State) (n : Nat) : Keeps free s (s.drawn n) := keeps_same rfl rfl rfl

theorem keeps_setCC (s : State) (c : BitVec 4) : Keeps free s (s.setCC c) := keeps_same rfl rfl rfl

/-! The bank fields lie behind the mode. -/

theorem prot_setBanks (s : State) (c : BitVec 4) : (s.setBanks c).prot = s.prot := by
  have bit (w : BitVec 12) : w.getMsbD 7 = (w.extractLsb' 4 8).getLsbD 0 := by simp [BitVec.getMsbD]
  rw [State.prot, State.prot, bit, bit, control_setBanks_rest]

theorem prot_setObank (s : State) (c : Bank) : (s.setObank c).prot = s.prot := by
  have bit (w : BitVec 12) : w.getMsbD 7 = (w.extractLsb' 2 10).getLsbD 2 := by simp [BitVec.getMsbD]
  rw [State.prot, State.prot, bit, bit, control_setObank_rest]

/-! Results -/

theorem nextKeeps_next (h : Keeps free s t) : NextKeeps free s (.next t) :=
  ⟨by rintro u ⟨⟩; exact h⟩

theorem nextKeeps_same (central : t.central = s.central) (mem : t.mem = s.mem) (prot : t.prot = s.prot) :
    NextKeeps free s (.next t) := nextKeeps_next (keeps_same central mem prot)

theorem nextKeeps_fault (x : Fault) : NextKeeps free s (.fault x) := ⟨by rintro u ⟨⟩⟩

theorem nextKeeps_refused (x : Refusal) : NextKeeps free s (.refused x) := ⟨by rintro u ⟨⟩⟩

theorem nextKeeps_trans (first : Keeps free s u) (second : NextKeeps free u k) : NextKeeps free s k :=
  ⟨fun t next => keeps_trans first (second.next t next)⟩

theorem nextKeeps_attempt {α : Type} {r : Except Fault α} {k : α → Result}
    (h : ∀ a, r = .ok a → NextKeeps free s (k a)) : NextKeeps free s (attempt r k) := by
  refine ⟨fun t next => ?_⟩
  obtain ⟨a, answered, next⟩ := attempt_next next
  exact (h a answered).next t next

/-- A read answers a value and changes nothing. -/
theorem nextKeeps_read {α : Type} {r : Except Fault α} {k : α → Result} (h : ∀ a, NextKeeps free s (k a)) :
    NextKeeps free s (attempt r k) := nextKeeps_attempt fun a _ => h a

/-- What a store keeps, and what follows it, keep together. -/
theorem nextKeeps_store {r : Except Fault State} {k : State → Result} (stored : ∀ u, r = .ok u → Keeps free s u)
    (h : ∀ u, NextKeeps free u (k u)) : NextKeeps free s (attempt r k) :=
  nextKeeps_attempt fun u written => nextKeeps_trans (stored u written) (h u)

theorem nextKeeps_ite {c : Prop} [Decidable c] {k' : Result} (yes : c → NextKeeps free s k)
    (no : ¬c → NextKeeps free s k') : NextKeeps free s (if c then k else k') := by
  split
  · exact yes ‹_›
  · exact no ‹_›

/-! Field checks -/

theorem nextKeeps_evenPair (h : NextKeeps free s k) : NextKeeps free s (evenPair r1 k) :=
  nextKeeps_ite (fun _ => h) fun _ => nextKeeps_refused _

theorem nextKeeps_atMost {n : Nat} (h : NextKeeps free s k) : NextKeeps free s (atMost n r1 k) :=
  nextKeeps_ite (fun _ => h) fun _ => nextKeeps_refused _

theorem nextKeeps_zeroField (h : NextKeeps free s k) : NextKeeps free s (zeroField r1 k) :=
  nextKeeps_ite (fun _ => h) fun _ => nextKeeps_refused _

/-! Interrupts: the exchange loads a new mode. -/

theorem nextKeeps_exchangePsw {old new saved : Half} (changes : free) :
    NextKeeps free s (exchangePsw old new saved s) :=
  nextKeeps_store (fun _ => keeps_writeFull) fun _ => nextKeeps_read fun _ =>
    nextKeeps_next (keeps_changing changes rfl id)

theorem nextKeeps_raise {c : Interrupt} (changes : free) : NextKeeps free s (raise c len s) :=
  nextKeeps_exchangePsw changes

theorem nextKeeps_privileged (changes : s.prot = true → free) (h : NextKeeps free s k) :
    NextKeeps free s (privileged len s k) :=
  nextKeeps_ite (fun protect => nextKeeps_raise (changes protect)) fun _ => h

theorem nextKeeps_suppliedService {dev : Byte} (changes : free) :
    NextKeeps free s (suppliedService dev s) := by
  refine ⟨fun t next => ?_⟩
  obtain ⟨-, central, -, -, -, -, -, memory, -⟩ := suppliedService_next next
  exact keeps_changing changes central memory

/-- A platform without a device service refuses it, so the mode stays there. -/
theorem nextKeeps_deviceService (changes : s.platform.service ≠ .notSpecified → free) (absent : Refusal) (dev : Byte) :
    NextKeeps free s (deviceService absent dev s) := by
  unfold deviceService
  split
  case h_1 => exact nextKeeps_refused _
  case h_2 given => exact nextKeeps_exchangePsw (changes (by simp [given]))
  case h_3 p given =>
    have free := changes (by simp [given])
    exact nextKeeps_read fun _ => nextKeeps_ite (fun _ => nextKeeps_exchangePsw free)
      fun _ => nextKeeps_suppliedService free
  case h_4 given => exact nextKeeps_suppliedService (changes (by simp [given]))

/-! Fixed point -/

theorem nextKeeps_loadFrom : NextKeeps free s (loadFrom b e r1 s) :=
  nextKeeps_read fun _ => nextKeeps_same rfl rfl rfl

theorem nextKeeps_storeTo : NextKeeps free s (storeTo b e r1 s) :=
  nextKeeps_store (fun _ => keeps_writeHalf) fun _ => nextKeeps_same rfl rfl rfl

theorem keeps_setRegsFrom (s : State) (n : Nat) (vs : List Half) : Keeps free s (s.setRegsFrom n vs) := by
  rw [setRegsFrom_eq]
  exact keeps_same rfl rfl rfl

theorem nextKeeps_shiftInto (n : Nat) (x : Shifted 16) : NextKeeps free s (.next (shiftInto len r1 n x s)) :=
  nextKeeps_same (State.setShiftCC_central ..) (State.setShiftCC_mem ..) (State.setShiftCC_prot ..)

theorem nextKeeps_shiftPairInto (n : Nat) (x : Shifted 32) : NextKeeps free s (.next (shiftPairInto r1 n x s)) :=
  nextKeeps_same (State.setShiftCC_central ..) (State.setShiftCC_mem ..) (State.setShiftCC_prot ..)

theorem nextKeeps_branch (taken : Bool) : NextKeeps free s (branch taken e len s) := by
  cases taken
  · exact nextKeeps_same rfl rfl rfl
  · exact nextKeeps_same rfl rfl rfl

theorem nextKeeps_divideFault (changes : s.fde = true → free) : NextKeeps free s (divideFault len s) :=
  nextKeeps_ite (fun enabled => nextKeeps_raise (changes enabled)) fun _ => nextKeeps_same rfl rfl rfl

theorem nextKeeps_divide (changes : s.fde = true → free) (n d : Int) : NextKeeps free s (divide len r1 n d s) := by
  have fault : NextKeeps free s (divideFault len s) := nextKeeps_divideFault changes
  have drawnFault : NextKeeps free s (divideFault len (s.drawn 2)) :=
    nextKeeps_trans (keeps_drawn s 2) (nextKeeps_divideFault changes)
  refine nextKeeps_ite (fun _ => fault) fun _ => nextKeeps_ite (fun _ => fault) fun _ => nextKeeps_ite (fun _ => ?_)
    fun _ => nextKeeps_same rfl rfl rfl
  exact nextKeeps_ite (fun _ => nextKeeps_refused _) fun _ => nextKeeps_ite (fun _ => drawnFault)
    fun _ => nextKeeps_same rfl rfl rfl

/-! Floating point -/

theorem nextKeeps_withFpr {k : BitVec 18 → Result} (h : ∀ a, NextKeeps free s (k a)) :
    NextKeeps free s (withFpr s r1 k) := by
  unfold withFpr
  split
  · exact h _
  · exact nextKeeps_refused _

theorem nextKeeps_fpRegisters {k : BitVec 18 → Full → Full → Result} (h : ∀ a x y, NextKeeps free s (k a x y)) :
    NextKeeps free s (fpRegisters r1 r2 s k) :=
  nextKeeps_withFpr fun a => nextKeeps_withFpr fun _ => nextKeeps_read fun x => nextKeeps_read fun y => h a x y

theorem nextKeeps_fpStorage {k : BitVec 18 → Full → Full → Result} (h : ∀ a x y, NextKeeps free s (k a x y)) :
    NextKeeps free s (fpStorage r1 x2 v s k) :=
  nextKeeps_withFpr fun a => nextKeeps_read fun x => nextKeeps_read fun y => h a x y

theorem nextKeeps_fpEnd {fault : Bool} (changes : s.fpe = true → free) : NextKeeps free s (fpEnd len fault s) :=
  nextKeeps_ite (fun caused => nextKeeps_raise (changes (Bool.and_eq_true _ _ ▸ caused).2))
    fun _ => nextKeeps_same rfl rfl rfl

theorem nextKeeps_fpResultInto {c : Bool} {x : FpResult} {n : Nat} (changes : s.fpe = true → free) :
    NextKeeps free s (fpResultInto len a2 c x (s.drawn n)) := by
  refine nextKeeps_trans (keeps_drawn s n) (nextKeeps_attempt fun u written => ?_)
  have same : u.fpe = s.fpe := by rw [(writeFull_ok written).1]; rfl
  exact nextKeeps_trans (keeps_writeFull written) <| nextKeeps_trans (keeps_setCC u _)
    (nextKeeps_fpEnd fun enabled => changes (same.symm.trans enabled))

theorem nextKeeps_unnormalized (h : NextKeeps free s k) : NextKeeps free s (unnormalized s k) :=
  nextKeeps_ite (fun _ => nextKeeps_refused _) fun _ => h

theorem nextKeeps_fpUndefined (changes : s.fpe = true → free) : NextKeeps free s (fpUndefined len a2 s) :=
  nextKeeps_unnormalized (nextKeeps_fpResultInto changes)

theorem nextKeeps_fpLoad (changes : s.fpe = true → free) (w : Full) : NextKeeps free s (fpLoad len a2 w s) :=
  nextKeeps_fpResultInto changes

theorem nextKeeps_fpAddInto (changes : s.fpe = true → free) (x y : Full) :
    NextKeeps free s (fpAddInto len a2 x y s) :=
  nextKeeps_ite (fun _ => nextKeeps_fpResultInto changes) fun _ => nextKeeps_fpUndefined changes

theorem nextKeeps_fpSubInto (changes : s.fpe = true → free) (x y : Full) :
    NextKeeps free s (fpSubInto len a2 x y s) :=
  nextKeeps_ite (fun _ => nextKeeps_fpResultInto changes) fun _ => nextKeeps_fpUndefined changes

theorem nextKeeps_fpMulInto (changes : s.fpe = true → free) (x y : Full) :
    NextKeeps free s (fpMulInto len a2 x y s) :=
  nextKeeps_ite (fun _ => nextKeeps_fpResultInto changes) fun _ => nextKeeps_fpUndefined changes

theorem nextKeeps_fpDivInto (changes : s.fpe = true → free) (x y : Full) :
    NextKeeps free s (fpDivInto len a2 x y s) :=
  nextKeeps_ite
    (fun _ => nextKeeps_ite
      (fun _ => nextKeeps_trans (keeps_setCC s _) (nextKeeps_fpEnd fun enabled => changes enabled))
      fun _ => nextKeeps_fpResultInto changes)
    fun _ => nextKeeps_fpUndefined changes

theorem nextKeeps_fpCompare (x y : Full) : NextKeeps free s (fpCompare len x y s) :=
  nextKeeps_ite (fun _ => nextKeeps_same rfl rfl rfl) fun _ => nextKeeps_unnormalized (nextKeeps_same rfl rfl rfl)

/-! Devices and lists -/

/-- An instruction that asks a device and goes on from there. -/
theorem nextKeeps_asked {q : DeviceRequest} (h : NextKeeps free (s.ask q).2 k) : NextKeeps free s k :=
  nextKeeps_trans (keeps_ask s q) h

/-- The end of an acknowledgement: the condition of the device is cleared. -/
theorem nextKeeps_acknowledged (kept : Keeps free s u) (x : DeviceAnswer) (st : Byte) :
    NextKeeps free s (.next (((u.setStatusCC st).acknowledged x).advance len)) := by
  refine nextKeeps_next (keeps_trans kept ?_)
  rw [acknowledged_eq]
  exact keeps_same rfl rfl rfl

theorem nextKeeps_readBlock (d : Byte) (start stop : Half) : NextKeeps free s (readBlock len d start stop s) :=
  nextKeeps_ite (fun _ => nextKeeps_same rfl rfl rfl) fun _ => nextKeeps_asked <|
    nextKeeps_store (fun _ => keeps_writeBytes) fun _ => nextKeeps_same rfl rfl rfl

theorem nextKeeps_writeBlock (d : Byte) (start stop : Half) : NextKeeps free s (writeBlock len d start stop s) :=
  nextKeeps_ite (fun _ => nextKeeps_same rfl rfl rfl) fun _ => nextKeeps_read fun _ => nextKeeps_asked <|
    nextKeeps_same rfl rfl rfl

theorem nextKeeps_withList {k : ListHead → Result} (h : ∀ x, NextKeeps free s (k x)) :
    NextKeeps free s (withList e s k) :=
  nextKeeps_ite (fun _ => nextKeeps_fault _) fun _ => nextKeeps_read fun _ => nextKeeps_read fun _ =>
    nextKeeps_read fun _ => nextKeeps_read fun _ => nextKeeps_ite (fun _ => h _) fun _ => nextKeeps_refused _

theorem nextKeeps_listFails : NextKeeps free s (listFails s) := nextKeeps_same rfl rfl rfl

theorem nextKeeps_listAdd (p used value : Byte) : NextKeeps free s (listAdd e r1 p used v value s) :=
  nextKeeps_store (fun _ => keeps_writeHalf) fun _ => nextKeeps_store (fun _ => keeps_writeByte) fun _ =>
    nextKeeps_store (fun _ => keeps_writeByte) fun _ => nextKeeps_same rfl rfl rfl

theorem nextKeeps_listRemove (p used value : Byte) : NextKeeps free s (listRemove e r1 p used v value s) :=
  nextKeeps_read fun x => nextKeeps_trans (keeps_setReg s r1 x) <|
    nextKeeps_store (fun _ => keeps_writeByte) fun _ => nextKeeps_store (fun _ => keeps_writeByte) fun _ =>
      nextKeeps_same rfl rfl rfl

end

end Sys2Proof.Proofs
end

section
/-! Each instruction of the HMP-1116, made of the operations above: what it keeps, and that it may change the mode only
where its operation code says so (60_exceptions.md R541, R543, R544, R554). -/

namespace Sys2Proof.Proofs

open Sys2Proof.Machine Sys2Proof.Safety

/-! Which instructions may change the mode -/

section

variable {s : State} {i : Instr} {op : Byte} {l : List Byte}

theorem mayChangeMode_of_code (encoded : encode i = .bytes (op :: l))
    (code : ([0xC2, 0x95, 0xE1] : List Byte).contains op = true) : mayChangeMode i s = true := by
  simp only [mayChangeMode, encoded, code, Bool.true_or]

theorem mayChangeMode_of_privileged (encoded : encode i = .bytes (op :: l))
    (code : privilegedCodes.contains op = true) (protect : s.prot = true) : mayChangeMode i s = true := by
  simp only [mayChangeMode, encoded, code, protect, Bool.and_self, Bool.or_true, Bool.true_or]

theorem mayChangeMode_of_divide (encoded : encode i = .bytes (op :: l))
    (code : ([0x0D, 0x4D] : List Byte).contains op = true) (enabled : s.fde = true) : mayChangeMode i s = true := by
  simp only [mayChangeMode, encoded, code, enabled, Bool.and_self, Bool.or_true, Bool.true_or]

theorem mayChangeMode_of_float (encoded : encode i = .bytes (op :: l))
    (code : ([0x28, 0x2A, 0x2B, 0x2C, 0x2D, 0x68, 0x6A, 0x6B, 0x6C, 0x6D] : List Byte).contains op = true)
    (enabled : s.fpe = true) : mayChangeMode i s = true := by
  simp only [mayChangeMode, encoded, code, enabled, Bool.and_self, Bool.or_true]

theorem mayChangeMode_sint {r1 x2 : Reg} {a : Half} (service : s.platform.service ≠ .notSpecified) :
    mayChangeMode (.sint r1 x2 a) s = true := by
  simp [mayChangeMode, encode, long, service]

end

/-- Every instruction of the HMP-1116 keeps the annex machine and the canonical form of memory, and the mode unless it is
one that may change it. -/
theorem exec_nextKeeps (s : State) {i : Instr} {l : List Byte} (encoded : encode i = .bytes l) :
    NextKeeps (mayChangeMode i s = true) s (exec i s) := by
  cases i
  case lis | lcs | lhr | lhi | nhr | nhi | ohr | ohi | xhr | xhi | thi | lbr | stbr | exbr =>
    exact nextKeeps_same rfl rfl rfl
  case clhr | clhi | chr | chi => exact nextKeeps_same rfl rfl rfl
  case ais | ahr | ahi | achr | sis | shr | shi | schr => exact nextKeeps_same rfl rfl rfl
  case balr | bal => exact nextKeeps_same rfl rfl rfl
  case mhr | mhur | rll | rrl => exact nextKeeps_evenPair (nextKeeps_same rfl rfl rfl)
  case nh | oh | xh | clh | ch | lb | clb | ah | ach | sh | sch =>
    exact nextKeeps_read fun _ => nextKeeps_same rfl rfl rfl
  case mh | mhu => exact nextKeeps_evenPair (nextKeeps_read fun _ => nextKeeps_same rfl rfl rfl)
  case lh | lh0 | lh1 | lh2 | lh3 => exact nextKeeps_loadFrom
  case sth | sth0 | sth1 | sth2 | sth3 => exact nextKeeps_storeTo
  case stb => exact nextKeeps_store (fun _ => keeps_writeByte) fun _ => nextKeeps_same rfl rfl rfl
  case ahm =>
    exact nextKeeps_read fun _ => nextKeeps_store (fun _ => keeps_writeHalf) fun _ => nextKeeps_same rfl rfl rfl
  case stm => exact nextKeeps_store (fun _ => keeps_writeHalves) fun _ => nextKeeps_same rfl rfl rfl
  case lm =>
    exact nextKeeps_read fun vs => nextKeeps_trans (keeps_setRegsFrom s _ vs) (nextKeeps_same rfl rfl rfl)
  case slls | slhl | srls | srhl | slha | srha => exact nextKeeps_shiftInto _ _
  case sll | srl | sla | sra => exact nextKeeps_evenPair (nextKeeps_shiftPairInto _ _)
  case btbs | btfs | btcr | btc | bfbs | bffs | bfcr | bfc => exact nextKeeps_branch _
  case bxh | bxle =>
    exact nextKeeps_atMost (nextKeeps_trans (keeps_setReg s _ _) (nextKeeps_branch _))
  case dhr =>
    exact nextKeeps_evenPair (nextKeeps_divide (mayChangeMode_of_divide rfl rfl) _ _)
  case dh =>
    exact nextKeeps_evenPair (nextKeeps_read fun _ =>
      nextKeeps_divide (mayChangeMode_of_divide rfl rfl) _ _)
  case ler =>
    exact nextKeeps_withFpr fun _ => nextKeeps_withFpr fun _ => nextKeeps_read fun w =>
      nextKeeps_fpLoad (mayChangeMode_of_float rfl rfl) w
  case le =>
    exact nextKeeps_withFpr fun _ => nextKeeps_read fun w =>
      nextKeeps_fpLoad (mayChangeMode_of_float rfl rfl) w
  case ste =>
    exact nextKeeps_withFpr fun _ => nextKeeps_read fun _ => nextKeeps_store (fun _ => keeps_writeFull) fun _ =>
      nextKeeps_same rfl rfl rfl
  case aer => exact nextKeeps_fpRegisters fun _ => nextKeeps_fpAddInto (mayChangeMode_of_float rfl rfl)
  case ae => exact nextKeeps_fpStorage fun _ => nextKeeps_fpAddInto (mayChangeMode_of_float rfl rfl)
  case ser => exact nextKeeps_fpRegisters fun _ => nextKeeps_fpSubInto (mayChangeMode_of_float rfl rfl)
  case se => exact nextKeeps_fpStorage fun _ => nextKeeps_fpSubInto (mayChangeMode_of_float rfl rfl)
  case mer => exact nextKeeps_fpRegisters fun _ => nextKeeps_fpMulInto (mayChangeMode_of_float rfl rfl)
  case me => exact nextKeeps_fpStorage fun _ => nextKeeps_fpMulInto (mayChangeMode_of_float rfl rfl)
  case der => exact nextKeeps_fpRegisters fun _ => nextKeeps_fpDivInto (mayChangeMode_of_float rfl rfl)
  case de => exact nextKeeps_fpStorage fun _ => nextKeeps_fpDivInto (mayChangeMode_of_float rfl rfl)
  case cer => exact nextKeeps_fpRegisters fun _ => nextKeeps_fpCompare
  case ce => exact nextKeeps_fpStorage fun _ => nextKeeps_fpCompare
  case epor => exact nextKeeps_same rfl rfl (prot_setObank _ _)
  case eppr =>
    exact nextKeeps_ite (fun _ => nextKeeps_same rfl rfl (prot_setBanks _ _)) fun _ => nextKeeps_refused _
  case svc r1 x2 a =>
    have changes : mayChangeMode (.svc r1 x2 a) s = true := mayChangeMode_of_code rfl rfl
    exact nextKeeps_store (fun _ => keeps_writeHalf) fun _ => nextKeeps_store (fun _ => keeps_writeFull) fun _ =>
      nextKeeps_read fun _ => nextKeeps_read fun _ => nextKeeps_next (keeps_changing changes rfl id)
  case lpsw r1 x2 a =>
    have changes : mayChangeMode (.lpsw r1 x2 a) s = true := mayChangeMode_of_code rfl rfl
    exact nextKeeps_privileged (fun _ => changes) (nextKeeps_zeroField (nextKeeps_read fun _ =>
      nextKeeps_next (keeps_changing changes rfl id)))
  case epsr r1 r2 =>
    have changes : mayChangeMode (.epsr r1 r2) s = true := mayChangeMode_of_code rfl rfl
    exact nextKeeps_privileged (fun _ => changes) (nextKeeps_next (keeps_changing changes rfl id))
  case sint r1 x2 a =>
    have changes (served : s.platform.service ≠ .notSpecified) : mayChangeMode (.sint r1 x2 a) s = true :=
      mayChangeMode_sint served
    exact nextKeeps_privileged (mayChangeMode_of_privileged rfl rfl) (nextKeeps_zeroField
      (nextKeeps_trans (keeps_advance s 4) (nextKeeps_deviceService (s := s.advance 4) changes _ _)))
  case air =>
    exact nextKeeps_privileged (mayChangeMode_of_privileged rfl rfl) (nextKeeps_acknowledged
      (keeps_trans (keeps_askAck s) (keeps_trans (keeps_takeNumber ..) (keeps_setReg ..))) _ _)
  case ai =>
    exact nextKeeps_privileged (mayChangeMode_of_privileged rfl rfl) (nextKeeps_attempt fun _ written =>
      nextKeeps_acknowledged (keeps_trans (keeps_trans (keeps_askAck s) (keeps_takeNumber ..)) (keeps_writeByte written))
        _ _)
  case ssr | ocr | wdr | whr =>
    exact nextKeeps_privileged (mayChangeMode_of_privileged rfl rfl) (nextKeeps_asked (nextKeeps_same rfl rfl rfl))
  case rdr | rhr =>
    exact nextKeeps_privileged (mayChangeMode_of_privileged rfl rfl) (nextKeeps_asked
      (nextKeeps_trans (keeps_unless_setReg ..) (nextKeeps_same rfl rfl rfl)))
  case oc | wd | wh =>
    exact nextKeeps_privileged (mayChangeMode_of_privileged rfl rfl)
      (nextKeeps_read fun _ => nextKeeps_asked (nextKeeps_same rfl rfl rfl))
  case ss =>
    exact nextKeeps_privileged (mayChangeMode_of_privileged rfl rfl)
      (nextKeeps_asked (nextKeeps_store (fun _ => keeps_writeByte) fun _ => nextKeeps_same rfl rfl rfl))
  case rd =>
    exact nextKeeps_privileged (mayChangeMode_of_privileged rfl rfl) (nextKeeps_asked
      (nextKeeps_store (fun _ => keeps_unless keeps_writeByte) fun _ => nextKeeps_same rfl rfl rfl))
  case rh =>
    exact nextKeeps_privileged (mayChangeMode_of_privileged rfl rfl) (nextKeeps_asked
      (nextKeeps_store (fun _ => keeps_unless keeps_writeHalf) fun _ => nextKeeps_same rfl rfl rfl))
  case rbr =>
    exact nextKeeps_privileged (mayChangeMode_of_privileged rfl rfl) (nextKeeps_atMost (nextKeeps_readBlock ..))
  case wbr =>
    exact nextKeeps_privileged (mayChangeMode_of_privileged rfl rfl) (nextKeeps_atMost (nextKeeps_writeBlock ..))
  case rb =>
    exact nextKeeps_privileged (mayChangeMode_of_privileged rfl rfl)
      (nextKeeps_read fun _ => nextKeeps_read fun _ => nextKeeps_readBlock ..)
  case wb =>
    exact nextKeeps_privileged (mayChangeMode_of_privileged rfl rfl)
      (nextKeeps_read fun _ => nextKeeps_read fun _ => nextKeeps_writeBlock ..)
  case al =>
    exact nextKeeps_privileged (mayChangeMode_of_privileged rfl rfl) (nextKeeps_zeroField
      (nextKeeps_read fun _ => nextKeeps_read fun _ => nextKeeps_asked
        (nextKeeps_store (fun _ => keeps_writeBytes) fun _ => nextKeeps_same rfl rfl rfl)))
  case atl =>
    rw [exec_atl]
    exact nextKeeps_withList fun _ => nextKeeps_ite (fun _ => nextKeeps_listFails) fun _ => nextKeeps_listAdd ..
  case abl =>
    rw [exec_abl]
    exact nextKeeps_withList fun _ => nextKeeps_ite (fun _ => nextKeeps_listFails) fun _ => nextKeeps_listAdd ..
  case rtl =>
    rw [exec_rtl]
    exact nextKeeps_withList fun _ => nextKeeps_ite (fun _ => nextKeeps_listFails) fun _ => nextKeeps_listRemove ..
  case rbl =>
    rw [exec_rbl]
    exact nextKeeps_withList fun _ => nextKeeps_ite (fun _ => nextKeeps_listFails) fun _ => nextKeeps_listRemove ..
  case lcnhr | lavr | lchr | cldpr | ldpr | cdpr | adpr | sdpr | mdpr | ddpr => exact nextKeeps_refused _
  case stdp | lcnh | lav | lch | cldp | ldp | cdp | adp | sdp | mdp | ddp | resb | sesb | srql | slql | srqa | slqa =>
    exact nextKeeps_refused _
  -- The instructions of the annex machine are words.
  all_goals cases encoded

end Sys2Proof.Proofs
end

section
/-! What every instruction of the annex machine keeps (49_annex_central_computer.md R450, R452, R462, R463, R505, R509):
nothing of the HMP-1116 changes, the stores stay in canonical form, F7 stays set in the single processor configuration,
and only three instructions alter the compare indicators. -/

namespace Sys2Proof.Proofs

open Sys2Proof.Machine Sys2Proof.Safety

/-- The fields that the machine invariant and the compare indicators are read from: most instructions write none. -/
def keptFields (c : Central) : WordStore × WordStore × Bool × Vector Bool 10 × Bool × Bool :=
  (c.mem, c.pages, c.dual, c.indicators, c.compareHigh, c.compareLow)

/-- What is kept of the annex machine: the canonical form of its stores, F7 in the single processor configuration and,
unless it `compares`, the compare indicators. -/
structure CentralKeeps (compares : Prop) (c d : Central) : Prop where
  /-- Annex memory. -/
  memory : StoreWf 0 c.mem → StoreWf 0 d.mem
  /-- Page registers. -/
  pages : StoreWf 0 c.pages → StoreWf 0 d.pages
  /-- F7. -/
  singleProcessor : (c.dual = false → c.indicator 6 = true) → d.dual = false → d.indicator 6 = true
  /-- Compare indicators. -/
  compare : compares ∨ d.compareHigh = c.compareHigh ∧ d.compareLow = c.compareLow

/-- A next state, where there is one, differs in the annex machine and in the free values drawn only, and keeps that. -/
structure NextCentral (compares : Prop) (s : State) (r : Result) : Prop where
  /-- The next state. -/
  next : ∀ t, r = .next t → OnlyCentral s t ∧ CentralKeeps compares s.central t.central

/-- The instruction is one that alters the compare indicators. -/
def SetsCompare (i : Instr) : Prop := (∃ r y, i = .cma r y) ∨ (∃ r y, i = .cml r y) ∨ i = .pai

section

variable {compares : Prop} {s t u : State} {c d : Central} {r : BitVec 4} {y : BitVec 9} {k k' : Result}

/-! Machines -/

theorem centralKeeps_same (same : keptFields d = keptFields c) : CentralKeeps compares c d := by
  simp only [keptFields, Prod.mk.injEq] at same
  obtain ⟨mem, pages, dual, indicators, high, low⟩ := same
  exact ⟨fun wf => mem ▸ wf, fun wf => pages ▸ wf,
    fun kept single => by simpa only [Central.indicator, indicators] using kept (dual ▸ single), .inr ⟨high, low⟩⟩

theorem keptFields_setIndex (c : Central) (r : BitVec 4) (v : CWord) : keptFields (c.setIndex r v) = keptFields c := by
  rw [setIndex_eq]; rfl

theorem onlyCentral_trans (first : OnlyCentral s u) (second : OnlyCentral u t) : OnlyCentral s t := by
  rw [OnlyCentral] at first second ⊢
  rw [second, first]

theorem indicatorVector_get (f : Fin 10 → Bool) (j : Fin 10) : (indicatorVector f)[j.val] = f j := by
  fin_cases j <;> rfl

/-- SEI and REI: F7 in the single processor configuration, then F3, then the named ones (R505, R506). -/
theorem indicator_setIndicators (c : Central) (n : BitVec 10) (v : Bool) (j : Fin 10) :
    (c.setIndicators n v).indicator j =
      if j = 6 ∧ !c.dual then true else if j ≠ 2 ∧ namesIndicator n j then v else c.indicator j :=
  indicatorVector_get _ j

/-- An indicator read after an indicator written. -/
theorem indicator_set (c : Central) (k j : Fin 10) (v : Bool) :
    { c with indicators := c.indicators.set k.val v }.indicator j = if j = k then v else c.indicator j := by
  simp only [Central.indicator, Vector.getElem_set, Fin.val_inj, eq_comm]

/-! Results -/

theorem nextCentral_next (only : OnlyCentral s t) (kept : CentralKeeps compares s.central t.central) :
    NextCentral compares s (.next t) := ⟨by rintro u ⟨⟩; exact ⟨only, kept⟩⟩

theorem nextCentral_same (only : OnlyCentral s t) (same : keptFields t.central = keptFields s.central) :
    NextCentral compares s (.next t) := nextCentral_next only (centralKeeps_same same)

theorem nextCentral_refused (x : Refusal) : NextCentral compares s (.refused x) := ⟨by rintro u ⟨⟩⟩

theorem nextCentral_ite {p : Prop} [Decidable p] (yes : p → NextCentral compares s k)
    (no : ¬p → NextCentral compares s k') : NextCentral compares s (if p then k else k') := by
  split
  · exact yes ‹_›
  · exact no ‹_›

/-- What follows changes to fields that are not kept. -/
theorem nextCentral_trans (only : OnlyCentral s u) (same : keptFields u.central = keptFields s.central)
    (h : NextCentral compares u k) : NextCentral compares s k := by
  refine ⟨fun t next => ?_⟩
  obtain ⟨only', kept⟩ := h.next t next
  simp only [keptFields, Prod.mk.injEq] at same
  obtain ⟨mem, pages, dual, indicators, high, low⟩ := same
  obtain ⟨memory, pageForm, single, compare⟩ := kept
  refine ⟨onlyCentral_trans only only', ?_, ?_, ?_, ?_⟩
  · rwa [mem] at memory
  · rwa [pages] at pageForm
  · simpa only [Central.indicator, dual, indicators] using single
  · rwa [high, low] at compare

theorem nextCentral_drawn (n : Nat) (h : NextCentral compares (s.drawn n) k) : NextCentral compares s k :=
  nextCentral_trans (u := s.drawn n) rfl rfl h

/-! Shared operations -/

theorem nextCentral_skipIf (skips : Bool) : NextCentral compares s (centralSkipIf s skips) :=
  nextCentral_same rfl (by cases skips <;> rfl)

theorem nextCentral_transfer (taken : Bool) : NextCentral compares s (centralTransfer taken r y s) := by
  rw [centralTransfer_eq]
  exact nextCentral_ite (fun _ => nextCentral_same rfl rfl) fun _ => nextCentral_same rfl rfl

theorem nextCentral_illegal : NextCentral compares s (centralIllegal s) :=
  nextCentral_ite (fun _ => nextCentral_same rfl rfl) fun _ => nextCentral_same rfl rfl

theorem nextCentral_sum (v : Int) : NextCentral compares s (centralSum v s) :=
  nextCentral_ite (fun _ => nextCentral_same rfl rfl) fun _ => nextCentral_same rfl rfl

theorem nextCentral_shift {r : BitVec 4} {n : BitVec 6} {f : Nat → Central → Central}
    (h : ∀ n, CentralKeeps compares s.central (f n s.central).sequence) :
    NextCentral compares s (centralShift r n s f) :=
  nextCentral_ite (fun _ => nextCentral_illegal) fun _ => nextCentral_next rfl (h _)

theorem nextCentral_indexStep (f : CWord → Nat → CWord → CWord) (y : BitVec 8) :
    NextCentral compares s (indexStep f r y s) := by
  unfold indexStep
  split
  · exact nextCentral_same rfl rfl
  · exact nextCentral_same rfl (keptFields_setIndex ..)
  · exact nextCentral_ite (fun _ => nextCentral_same rfl (keptFields_setIndex ..)) fun _ => nextCentral_same rfl rfl

theorem nextCentral_indexTransfer (a : CWord) : NextCentral compares s (indexTransfer r a s) :=
  nextCentral_ite (fun _ => nextCentral_same rfl rfl) fun _ => nextCentral_same rfl (keptFields_setIndex ..)

theorem nextCentral_trx (x : Bool) (y : BitVec 8) : NextCentral compares s (execTrx r x y s) := by
  unfold execTrx
  split
  · exact nextCentral_same rfl rfl
  · exact nextCentral_drawn 1 (nextCentral_indexTransfer _)
  · exact nextCentral_ite (fun _ => nextCentral_drawn 1 (nextCentral_indexTransfer _))
      fun _ => nextCentral_same rfl rfl

theorem nextCentral_sxh (x : Bool) (y : BitVec 8) : NextCentral compares s (execSxh r x y s) := by
  unfold execSxh
  split
  · exact nextCentral_same rfl rfl
  · exact nextCentral_skipIf _
  · exact nextCentral_ite (fun _ => nextCentral_drawn 1 (nextCentral_skipIf _))
      fun _ => nextCentral_drawn 2 (nextCentral_skipIf _)

theorem nextCentral_notBusy (h : NextCentral compares s k) : NextCentral compares s (whenNotBusy s k) :=
  nextCentral_ite (fun _ => h) fun _ => nextCentral_same rfl rfl

theorem exec_tof (s : State) (r : BitVec 4) (y : BitVec 9) :
    exec (.tof r y) s =
      centralTransfer s.central.overflow r y (s.setCentral { s.central with overflow := false }) := rfl

/-! Instructions that write a kept field -/

theorem nextCentral_putWord (a v : CWord) : NextCentral compares s
    (centralNext (s.drawn 1) (s.central.putWord a v)) :=
  nextCentral_next rfl ⟨putWord_wf s.central a v, id, id, .inr ⟨rfl, rfl⟩⟩

theorem nextCentral_lpr : NextCentral compares s (execLpr s) := by
  refine nextCentral_ite (fun _ => nextCentral_same rfl ?_) fun _ => nextCentral_next rfl ?_
  · cases Config.centralPageZeroCounts <;> rfl
  · exact ⟨id, writeStore_wf 0 _ _ _, id, .inr ⟨rfl, rfl⟩⟩

/-- SEI and REI set F7 in the single processor configuration (R505). -/
theorem nextCentral_setIndicators (n : BitVec 10) (v : Bool) :
    NextCentral compares s (centralNext s (s.central.setIndicators n v)) := by
  refine nextCentral_next rfl ⟨id, id, fun _ (single : s.central.dual = false) => ?_, .inr ⟨rfl, rfl⟩⟩
  exact (indicator_setIndicators s.central n v 6).trans (if_pos ⟨rfl, by simp [single]⟩)

/-- PAI leaves F7 as it was (R509). -/
theorem nextCentral_pai (sets : compares) : NextCentral compares s (execPai s) := by
  refine nextCentral_next rfl ⟨id, id, fun kept single => ?_, .inl sets⟩
  change (indicatorVector _)[(6 : Fin 10).val] = true
  rw [indicatorVector_get]
  exact kept single

/-- The ring sum of RRB goes to F2, not to F7 (R495). -/
theorem nextCentral_rrb (n : BitVec 6) : NextCentral compares s (execRrb r n s) :=
  nextCentral_shift fun _ =>
    ⟨id, id, fun kept single => (indicator_set s.central 1 6 _).trans (kept single), .inr ⟨rfl, rfl⟩⟩

end

/-- Every instruction of the annex machine keeps the HMP-1116 and what the machine invariant says of the annex machine;
only CMA, CML and PAI alter the compare indicators. -/
theorem exec_nextCentral (s : State) {i : Instr} {w : CWord} (encoded : encode i = .word w) :
    NextCentral (SetsCompare i) s (exec i s) := by
  cases i
  case tru => exact nextCentral_transfer true
  case trn | trz | tre | trh | trl => exact nextCentral_transfer _
  case tof =>
    rw [exec_tof]
    exact nextCentral_trans (u := s.setCentral { s.central with overflow := false }) rfl rfl (nextCentral_transfer _)
  case tsx => exact nextCentral_same rfl rfl
  case cma r y => exact nextCentral_next rfl ⟨id, id, id, .inl (.inl ⟨r, y, rfl⟩)⟩
  case cml r y => exact nextCentral_next rfl ⟨id, id, id, .inl (.inr (.inl ⟨r, y, rfl⟩))⟩
  case lck =>
    exact nextCentral_ite
      (fun _ => nextCentral_ite (fun _ => nextCentral_same rfl rfl) fun _ => nextCentral_same rfl rfl)
      fun _ => nextCentral_ite (fun _ => nextCentral_same rfl rfl) fun _ => nextCentral_refused _
  case ulk => exact nextCentral_ite (fun _ => nextCentral_same rfl rfl) fun _ => nextCentral_same rfl rfl
  case add | sub => exact nextCentral_drawn 1 (nextCentral_sum _)
  case mly | cla | ldq | lga | lgm | lgc | cgc => exact nextCentral_same rfl rfl
  case dpa =>
    exact nextCentral_ite (fun _ => nextCentral_same rfl rfl)
      fun _ => nextCentral_ite (fun _ => nextCentral_same rfl rfl) fun _ => nextCentral_same rfl rfl
  case div | sqr => exact nextCentral_ite (fun _ => nextCentral_same rfl rfl) fun _ => nextCentral_same rfl rfl
  case str | stq => exact nextCentral_putWord _ _
  case inx | dcx => exact nextCentral_indexStep _ _
  case trx => exact nextCentral_trx _ _
  case sxh => exact nextCentral_sxh _ _
  case lsa | lsb | rsa | rsb | rra | rrq | lrb =>
    dsimp only [exec]
    exact nextCentral_shift fun _ => centralKeeps_same rfl
  case rrb => exact nextCentral_rrb _
  case sap | csa | xca | cpa => exact nextCentral_same rfl rfl
  case lpr => exact nextCentral_lpr
  case rpr | lbi | rbi => exact nextCentral_same rfl rfl
  case sei | rei => exact nextCentral_setIndicators _ _
  case ski | skw => exact nextCentral_skipIf _
  case pia => exact nextCentral_same rfl rfl
  case pai => exact nextCentral_pai (.inr (.inr rfl))
  case exf => exact nextCentral_ite (fun _ => nextCentral_same rfl rfl) fun _ => nextCentral_same rfl rfl
  case twa | otw | cta | ctr | opa | opb => exact nextCentral_notBusy (nextCentral_same rfl rfl)
  case twf | ipc | cts | pmo | pmf => exact nextCentral_same rfl rfl
  -- The instructions of the HMP-1116 are bytes.
  all_goals cases encoded

end Sys2Proof.Proofs
end

section
/-! The machine as a whole (70_reset_and_hazards.md R590, R591, 60_exceptions.md R541, R547, R548, R560): the invariant,
what changes the mode, the privileged instructions in Protect Mode and the interrupts taken. -/

namespace Sys2Proof.Proofs

open Sys2Proof.Machine Sys2Proof.Safety

section

variable {s t : State} {free compares : Prop} {k : Interrupt} {d : Byte}

/-! The invariant -/

theorem invariant_of_keeps (holds : Invariant s) (kept : Keeps free s t) : Invariant t := by
  obtain ⟨memory, centralMemory, pages, singleProcessor⟩ := holds
  exact ⟨kept.memory memory, kept.central ▸ centralMemory, kept.central ▸ pages, kept.central ▸ singleProcessor⟩

theorem invariant_of_central (holds : Invariant s) (only : OnlyCentral s t)
    (kept : CentralKeeps compares s.central t.central) : Invariant t := by
  obtain ⟨memory, centralMemory, pages, singleProcessor⟩ := holds
  have same : t.mem = s.mem := by rw [only]
  exact ⟨same ▸ memory, kept.memory centralMemory, kept.pages pages, kept.singleProcessor singleProcessor⟩

theorem exec_invariant {i : Instr} (holds : Invariant s) (next : exec i s = .next t) : Invariant t := by
  cases encoded : encode i with
  | bytes l => exact invariant_of_keeps holds ((exec_nextKeeps s encoded).next t next)
  | word w =>
    obtain ⟨only, kept⟩ := (exec_nextCentral s encoded).next t next
    exact invariant_of_central holds only kept

/-! What a step of each processor answers that is no instruction. -/

theorem serveDevice_nextKeeps (s : State) : NextKeeps True s (serveDevice s) :=
  nextKeeps_deviceService (fun _ => trivial) ..

theorem raiseUnassigned_nextKeeps (s : State) : NextKeeps True s (raiseUnassigned s) :=
  nextKeeps_ite (fun _ => nextKeeps_trans (keeps_drawn s 1) (nextKeeps_exchangePsw trivial))
    fun _ => nextKeeps_exchangePsw trivial

theorem controllerStep_invariant (holds : Invariant s) (next : controllerStep s = .next t) : Invariant t := by
  unfold controllerStep at next
  split at next
  case isTrue => exact invariant_of_keeps holds ((serveDevice_nextKeeps s).next t next)
  case isFalse =>
    obtain ⟨decoded, -, next⟩ := attempt_next next
    cases decoded with
    | ok i => exact exec_invariant holds next
    | error e => exact invariant_of_keeps holds ((raiseUnassigned_nextKeeps s).next t next)

theorem centralStep_invariant (holds : Invariant s) (next : centralStep s = .next t) : Invariant t := by
  unfold centralStep at next
  split at next
  · exact exec_invariant holds next
  · obtain ⟨only, kept⟩ := (nextCentral_illegal (compares := False)).next t next
    exact invariant_of_central holds only kept

/-! The mode -/

theorem prot_of_onlyCentral (only : OnlyCentral s t) : t.prot = s.prot := by rw [only]; rfl

/-! Privileged instructions -/

/-- The 22 codes are those of the instructions that begin with the privilege check, which comes before the checks of
their fields. -/
theorem exec_privileged {i : Instr} {op : Byte} {l : List Byte} (encoded : encode i = .bytes (op :: l))
    (code : op ∈ privilegedCodes) (s : State) :
    ∃ effect, exec i s = privileged (BitVec.ofNat 16 (l.length + 1)) s effect := by
  cases i
  case lpsw | epsr | sint | wbr | rbr | whr | rhr | wdr | rdr | ssr | ocr | air => cases encoded; exact ⟨_, rfl⟩
  case al | wb | rb | wh | rh | wd | rd | ss | oc | ai => cases encoded; exact ⟨_, rfl⟩
  -- Every other operation code is none of the 22.
  all_goals cases encoded <;> exact absurd code (by decide)

/-! Interrupts taken -/

/-- The service of a platform that exchanges the Program Status Word. -/
theorem deviceService_serves (ready : ServiceReady s d) (absent : Refusal) :
    ∃ t, deviceService absent d s = .next t ∧ Serves s t d s.loc := by
  unfold ServiceReady at ready
  unfold deviceService Serves
  split at ready
  case h_1 exchange =>
    simp only [exchange]
    exact raiseSaving_exchanges s.loc ready
  case h_2 p table =>
    obtain ⟨entryReady, immediate, oldReady, newReady⟩ := ready
    simp only [table, readHalf_ready entryReady, attempt_ok, if_pos immediate]
    exact exchangePsw_exchanges s.loc oldReady newReady
  case h_3 => exact ready.elim

/-- The location counter is no part of what an exchange keeps. -/
theorem exchangesAt_of_advance {old new saved n : Half} (h : ExchangesAt (s.advance n) t old new saved) :
    ExchangesAt s t old new saved := by
  obtain ⟨stored, psw, ⟨registers, memory, platform, central, active⟩, ⟨pending, answers, requests⟩⟩ := h
  exact ⟨stored, psw, ⟨registers, memory, platform, central, active⟩, ⟨pending, answers, requests⟩⟩

theorem serves_of_advance {saved n : Half} (h : Serves (s.advance n) t d saved) : Serves s t d saved := by
  unfold Serves at *
  rw [State.advance_platform] at h
  split at h
  · exact exchangesAt_of_advance h
  · exact exchangesAt_of_advance h

theorem sint_serves {x2 : Reg} {a : Half} (supervisor : s.prot = false) (ready : ServiceReady s (lowByte (s.sum a x2))) :
    ∃ t, exec (.sint 0 x2 a) s = .next t ∧ Serves s t (lowByte (s.sum a x2)) (s.loc + 4) := by
  obtain ⟨t, next, serves⟩ := deviceService_serves (s := s.advance 4) ready .sintNotSpecified
  exact ⟨t, (exec_sint_supervisor supervisor 0 x2 a).trans ((zeroField_zero rfl _).trans next), serves_of_advance serves⟩

theorem step_due {rest : List Byte} (active : s.active = .controller) (enabled : s.ps ∈ s.platform.interruptStatuses)
    (requests : s.pending = d :: rest) : step s = deviceService .deviceInterruptNotSpecified d s := by
  have due : s.deviceInterruptDue = true := by simp [State.deviceInterruptDue, enabled, requests]
  simp [step, active, controllerStep, due, serveDevice, requests]

end

/-! The statements -/

/-- Settles O2: a step is an instruction, an interrupt taken or the illegal instruction operation, and each keeps what
the invariant says. -/
theorem stepKeepsInvariant : Obligations.StepKeepsInvariant := by
  unfold Obligations.StepKeepsInvariant
  intro s t holds next
  unfold step at next
  split at next
  · exact controllerStep_invariant holds next
  · exact centralStep_invariant holds next

/-- Settles O9: followed through the operations each instruction is made of. -/
theorem modeChangesOnlyBy : Obligations.ModeChangesOnlyBy := by
  unfold Obligations.ModeChangesOnlyBy
  intro s t i next changed
  cases encoded : encode i with
  | bytes l => exact ((exec_nextKeeps s encoded).next t next).mode.resolve_right changed
  | word w => exact absurd (prot_of_onlyCentral ((exec_nextCentral s encoded).next t next).1) changed

/-- Settles O1: after reset the stores are empty and F7 is set. -/
theorem resetMeetsInvariant : Obligations.ResetMeetsInvariant := by
  unfold Obligations.ResetMeetsInvariant
  exact ⟨reset_memory_wf, storeWf_nil 0, storeWf_nil 0, fun _ => rfl⟩

/-- Settles O8: the privilege check comes first, and it raises the interrupt. -/
theorem privilegedInProtectMode : Obligations.PrivilegedInProtectMode := by
  unfold Obligations.PrivilegedInProtectMode
  intro s i op l encoded code protect ready
  obtain ⟨effect, runs⟩ := exec_privileged encoded code s
  rw [runs, privileged, if_pos protect]
  exact raise_interrupts ready

/-- Settles O33: each of them is the exchange at the platform's locations. -/
theorem raiseExchangesPsw : Obligations.RaiseExchangesPsw := by
  unfold Obligations.RaiseExchangesPsw
  refine ⟨fun s k len ready => raise_interrupts ready, fun s x2 a supervisor ready => sint_serves supervisor ready,
    fun s d rest active enabled requests => ?due⟩
  case due =>
    rw [step_due active enabled requests]
    exact ⟨fun ready => deviceService_serves ready _, fun none => deviceService_notSpecified none _ d⟩

end Sys2Proof.Proofs
end

section
/-! The annex machine: control, word transmission and logical operations (49_annex_central_computer.md R457 to R468, R475
to R478, R483 to R486): what an instruction that completes leaves, and from that these instructions. -/

namespace Sys2Proof.Proofs

open Sys2Proof.Machine Sys2Proof.Safety

section

variable {s : State} {r : BitVec 4} {y : BitVec 9} {k : Result} {c d : Central}

/-- The instruction completes with nothing changed but the annex machine, which becomes `d`; free values may have been
drawn. -/
theorem completes_of_next {n : Nat} (next : k = .next ((s.drawn n).setCentral d)) :
    ∃ t, k = .next t ∧ OnlyCentral s t ∧ t.central = d := ⟨_, next, rfl, rfl⟩

/-! Transfers (R455) -/

/-- A conditional transfer completes at the free address or in sequence. -/
theorem centralTransfer_completes {taken holds : Bool} (runs : k = centralTransfer taken r y s) (condition : taken = holds) :
    ∃ t, k = .next t ∧ OnlyCentral s t ∧ t.central =
      { s.central with pc := if holds then Config.centralLocation s.draws r y else s.central.pc + 1 } := by
  subst condition
  rw [runs, centralTransfer_eq]
  cases taken
  · exact ⟨_, rfl, rfl, rfl⟩
  · exact ⟨_, rfl, rfl, rfl⟩

theorem sgn_eq_getMsbD (w : CWord) : sgn w = w.getMsbD 0 := by simp [sgn, BitVec.msb]

theorem mag_beq_zero (w : CWord) : (mag w == 0) = (w.extractLsb' 0 17 == 0) := by
  rw [Bool.eq_iff_iff, beq_iff_eq, beq_iff_eq, mag, ← BitVec.toNat_inj]
  rfl

/-- TOF turns the Overflow Indicator off on its way (R460). -/
theorem tof_completes (s : State) (r : BitVec 4) (y : BitVec 9) :
    ∃ t, exec (.tof r y) s = .next t ∧ OnlyCentral s t ∧ t.central = { s.central with
      pc := if s.central.overflow then Config.centralLocation s.draws r y else s.central.pc + 1, overflow := false } := by
  rw [exec_tof, centralTransfer_eq]
  cases s.central.overflow
  · exact ⟨_, rfl, rfl, rfl⟩
  · exact ⟨_, rfl, rfl, rfl⟩

/-! Words of memory -/

/-- A store completes with one word of the annex memory written. -/
theorem store_completes {a v : CWord} (runs : k = centralNext (s.drawn 1) (s.central.putWord a v)) :
    ∃ t, k = .next t ∧ OnlyCentral s t ∧
      t.central = { s.central with pc := s.central.pc + 1, mem := t.central.mem } ∧
      ∀ x, t.central.word x = if x = a then v else s.central.word x := by
  refine ⟨_, runs, rfl, rfl, fun x => ?_⟩
  exact (word_putWord s.central a x v).trans (by simp only [eq_comm])

end

/-! The statements -/

/-- Settles O48: each condition is read before the transfer. -/
theorem centralTransfers : Obligations.CentralTransfers := by
  unfold Obligations.CentralTransfers
  intro s r y c a
  simp only [List.forall_mem_cons, List.not_mem_nil, false_implies, implies_true, and_true]
  refine ⟨⟨?tru, ?trn, ?trz, ?tre, ?trh, ?trl⟩, tof_completes s r y, completes_of_next rfl⟩
  case tru => exact completes_of_next (n := 1) rfl
  case tre | trh => exact centralTransfer_completes rfl rfl
  case trn => exact centralTransfer_completes rfl (sgn_eq_getMsbD _)
  case trz => exact centralTransfer_completes rfl (mag_beq_zero _)
  case trl => exact centralTransfer_completes rfl (Bool.and_comm ..)

/-- Settles O50: the configuration, the other lock register and the switch decide. -/
theorem centralLock : Obligations.CentralLock := by
  unfold Obligations.CentralLock
  intro s n c
  refine ⟨fun dual same => ?_, fun dual other => ?_, fun single ignored => ?_, fun single heeded => ?_, ?ulk⟩
  · exact (if_pos dual).trans (if_pos same)
  · exact (if_pos dual).trans (if_neg other)
  · exact (if_neg (ne_true_of_eq_false single)).trans (if_pos ignored)
  · exact (if_neg (ne_true_of_eq_false single)).trans (if_neg (ne_true_of_eq_false heeded))
  case ulk =>
    by_cases dual : c.dual = true
    · rw [if_pos dual]; exact if_pos dual
    · rw [if_neg dual]; exact if_neg dual

/-- Settles O54: one word is read, or written, at the free address. -/
theorem centralWords : Obligations.CentralWords := by
  unfold Obligations.CentralWords
  intro s r y c a m
  simp only [List.forall_mem_cons, List.not_mem_nil, false_implies, implies_true, and_true]
  exact ⟨⟨completes_of_next rfl, completes_of_next rfl, completes_of_next rfl, completes_of_next rfl,
    completes_of_next rfl⟩, completes_of_next rfl, store_completes rfl, store_completes rfl⟩

end Sys2Proof.Proofs
end

section
/-! Arithmetic of the annex machine (49_annex_central_computer.md R451, R469 to R474, R496 to R499): sign and magnitude
words in numbers, the double-length product, quotient and sum, the square root, and from that these instructions. -/

namespace Sys2Proof.Proofs

open Sys2Proof.Machine Sys2Proof.Safety

section

variable {s : State} {r : BitVec 4} {y : BitVec 9} {k : Result} {v : Int} {m n d : Nat}

/-! Sign and magnitude (R451) -/

theorem mag_signMag_of_lt (sign : Bool) (fits : m < 2 ^ 17) : mag (signMag sign m) = m :=
  (mag_signMag sign m).trans (Nat.mod_eq_of_lt fits)

theorem centralValue_signMag (sign : Bool) (fits : m < 2 ^ 17) :
    centralValue (signMag sign m) = if sign then -(m : Int) else m := by
  rw [centralValue, sgn_signMag, mag_signMag_of_lt sign fits]

/-- Two words put together from the halves of a magnitude hold it. -/
theorem doubleMag_signMag (high low : Bool) (fits : n < 2 ^ 34) :
    doubleMag (signMag high (n / 2 ^ 17)) (signMag low (n % 2 ^ 17)) = n := by
  rw [doubleMag, mag_signMag, mag_signMag]
  omega

theorem doubleMag_lt (high low : CWord) : doubleMag high low < 2 ^ 34 := by
  have := mag_lt high
  have := mag_lt low
  unfold doubleMag
  omega

theorem doubleValue_signMag (sign : Bool) (fits : n < 2 ^ 34) :
    doubleValue (signMag sign (n / 2 ^ 17)) (signMag sign (n % 2 ^ 17)) = if sign then -(n : Int) else n := by
  rw [doubleValue, sgn_signMag, doubleMag_signMag sign sign fits]

/-- A number from its magnitude and its sign, whatever sign a zero has. -/
theorem signed_natAbs (zeroSign : Bool) (v : Int) :
    (if (if v = 0 then zeroSign else decide (v < 0)) then -(v.natAbs : Int) else v.natAbs) = v := by
  by_cases zero : v = 0
  · subst zero; simp
  · rw [if_neg zero]
    by_cases negative : v < 0
    · rw [if_pos (decide_eq_true negative)]; omega
    · rw [if_neg (by simpa using negative)]; omega

/-! Sign changes and the complement (R496, R497, R499) -/

theorem signMag_mag (sign : Bool) (w : CWord) : signMag sign (mag w) = BitVec.ofBool sign ++ w.extractLsb' 0 17 := by
  rw [signMag, mag, BitVec.ofNat_toNat, BitVec.setWidth_eq]

theorem signMag_not_sgn (w : CWord) : signMag (!sgn w) (mag w) = w ^^^ 0x20000 := by
  have flip (b : Bool) (x : BitVec 17) :
      (BitVec.ofBool (!b) ++ x : CWord) = (BitVec.ofBool b ++ x) ^^^ (BitVec.ofBool true ++ 0#17) := by
    rw [BitVec.xor_append, BitVec.xor_zero]
    cases b <;> rfl
  rw [signMag_mag, flip, ← signMag_mag, signMag_eq]
  rfl

theorem signMag_complement (sign : Bool) (w : CWord) :
    signMag sign ((2 ^ 17 - mag w) % 2 ^ 17) = BitVec.ofBool sign ++ -(w.extractLsb' 0 17) := by
  rw [signMag, mag, ← BitVec.toNat_neg, BitVec.ofNat_toNat, BitVec.setWidth_eq]

theorem exec_sap (s : State) : exec .sap s = centralNext s { s.central with acc := signMag false (mag s.central.acc) } :=
  rfl

theorem exec_csa (s : State) : exec .csa s =
    centralNext s { s.central with acc := signMag (!sgn s.central.acc) (mag s.central.acc) } := rfl

theorem exec_cpa (s : State) : exec .cpa s =
    centralNext s { s.central with
      acc := if sgn s.central.acc then signMag true ((2 ^ 17 - mag s.central.acc) % 2 ^ 17) else s.central.acc } := rfl

/-! Add and subtract (R469, R470) -/

/-- The end of an add or subtract: the exact sum when it fits, else the indicator. -/
theorem sum_completes (runs : k = centralSum v (s.drawn 1)) :
    ∃ t, k = .next t ∧ OnlyCentral s t ∧
      t.central = { s.central with
        pc := s.central.pc + 1, acc := t.central.acc
        overflow := s.central.overflow || decide (v < -131071 ∨ 131071 < v) } ∧
      (-131071 ≤ v → v ≤ 131071 → centralValue t.central.acc = v ∧
        (v = 0 → t.central.acc.getMsbD 0 = s.central.acc.getMsbD 0)) := by
  rw [runs, centralSum_eq]
  by_cases fits : v.natAbs < 2 ^ 17
  · have inside : decide (v < -131071 ∨ 131071 < v) = false := by rw [decide_eq_false_iff_not]; omega
    rw [if_pos fits, inside, Bool.or_false]
    refine ⟨_, rfl, rfl, rfl, fun _ _ => ⟨?value, fun zero => ?sign⟩⟩
    case value => exact (centralValue_signMag _ fits).trans (signed_natAbs _ v)
    case sign => exact (sgn_eq_getMsbD _).symm.trans ((sgn_signMag _ _).trans ((if_pos zero).trans (sgn_eq_getMsbD _)))
  · have outside : decide (v < -131071 ∨ 131071 < v) = true := by rw [decide_eq_true_eq]; omega
    rw [if_neg fits, outside, Bool.or_true]
    exact ⟨_, rfl, rfl, rfl, fun low high => by omega⟩

/-! Multiply and divide (R471, R472) -/

theorem product_lt (a b : CWord) : mag a * mag b < 2 ^ 34 :=
  (Nat.mul_lt_mul'' (mag_lt a) (mag_lt b)).trans_eq (by decide)

/-- The quotient of a double-length number by more than its high-order half fits a word. -/
theorem quotient_lt {high low : CWord} (divisor : mag high < m) : doubleMag high low / m < 2 ^ 17 := by
  have := mag_lt low
  have : (mag high + 1) * 2 ^ 17 ≤ m * 2 ^ 17 := Nat.mul_le_mul_right _ divisor
  rw [Nat.div_lt_iff_lt_mul (by omega), doubleMag]
  omega

/-! Double-length sum (R473) -/

/-- The sum of two double-length numbers, each with one sign in both words. -/
theorem exec_dpa (s : State) (r : BitVec 4) (y : BitVec 9) :
    let c := s.central
    let a := Config.centralLocation s.draws r y
    let free := { c with
      pc := c.pc + 1, acc := Config.centralWord (s.draws + 1), q := Config.centralWord (s.draws + 2) }
    let v := doubleValue c.acc c.q + doubleValue (c.word (a + 1)) (c.word a)
    let sign := if v = 0 then sgn c.acc else decide (v < 0)
    exec (.dpa r y) s =
      if sgn (c.word (a + 1)) != sgn (c.word a) || sgn c.acc != sgn c.q then
        .next ((s.drawn 4).setCentral { free with overflow := c.overflow || Config.freeBit (s.draws + 3) })
      else if v.natAbs < 2 ^ 34 then
        .next ((s.drawn 1).setCentral { c with
          pc := c.pc + 1, acc := signMag sign (v.natAbs / 2 ^ 17), q := signMag sign (v.natAbs % 2 ^ 17) })
      else .next ((s.drawn 3).setCentral { free with overflow := true }) := rfl

theorem dpa_completes (s : State) (r : BitVec 4) (y : BitVec 9) :
    let c := s.central
    let a := Config.centralLocation s.draws r y
    let v := doubleValue c.acc c.q + doubleValue (c.word (a + 1)) (c.word a)
    let like := sgn (c.word (a + 1)) = sgn (c.word a) ∧ sgn c.acc = sgn c.q
    ∃ t, exec (.dpa r y) s = .next t ∧ OnlyCentral s t ∧
      t.central = { c with
        pc := c.pc + 1, acc := t.central.acc, q := t.central.q, overflow := t.central.overflow } ∧
      (c.overflow = true → t.central.overflow = true) ∧
      (like → v.natAbs < 2 ^ 34 → t.central.overflow = c.overflow ∧ sgn t.central.q = sgn t.central.acc ∧
        doubleValue t.central.acc t.central.q = v ∧ (v = 0 → sgn t.central.acc = sgn c.acc)) ∧
      (like → 2 ^ 34 ≤ v.natAbs → t.central.overflow = true) := by
  intro c a v like
  rw [exec_dpa]
  have signs : (sgn (c.word (a + 1)) != sgn (c.word a) || sgn c.acc != sgn c.q) = true ↔ ¬like := by
    simp only [like, Bool.or_eq_true, bne_iff_ne]
    tauto
  split
  case isTrue differ =>
    have unlike : ¬like := signs.mp differ
    exact ⟨_, rfl, rfl, rfl, fun on => by simp [c, on], fun same => absurd same unlike, fun same => absurd same unlike⟩
  case isFalse =>
    split
    case isTrue fits =>
      refine ⟨_, rfl, rfl, rfl, id, fun _ _ => ⟨rfl, ?sign, ?value, fun zero => ?zeroSign⟩,
        fun _ large => absurd fits (Nat.not_lt.mpr large)⟩
      case sign => exact (sgn_signMag ..).trans (sgn_signMag ..).symm
      case value => exact (doubleValue_signMag _ fits).trans (signed_natAbs _ v)
      case zeroSign => exact (sgn_signMag ..).trans (if_pos zero)
    case isFalse large =>
      exact ⟨_, rfl, rfl, rfl, fun _ => rfl, fun _ fits => absurd fits large, fun _ _ => rfl⟩

/-! Square root (R474) -/

/-- Each bit tried keeps the root between the bound below and the one above. -/
theorem squareRoot_bounds (n root : Nat) (below : root * root ≤ d) (above : d < (root + 2 ^ n) * (root + 2 ^ n)) :
    squareRoot d n root * squareRoot d n root ≤ d ∧ d < (squareRoot d n root + 1) * (squareRoot d n root + 1) := by
  induction n generalizing root with
  | zero => exact ⟨below, above⟩
  | succ n ih =>
    rw [Nat.pow_succ] at above
    unfold squareRoot
    split
    case isTrue taken => exact ih _ taken (by convert above using 2 <;> ring)
    case isFalse left => exact ih _ below (Nat.lt_of_not_le left)

theorem squareRoot_spec (fits : d < 2 ^ 34) :
    squareRoot d 17 0 * squareRoot d 17 0 ≤ d ∧ d < (squareRoot d 17 0 + 1) * (squareRoot d 17 0 + 1) :=
  squareRoot_bounds 17 0 (Nat.zero_le d) (by omega)

theorem squareRoot_lt (fits : d < 2 ^ 34) : squareRoot d 17 0 < 2 ^ 17 := by
  have below := (squareRoot_spec fits).1
  by_contra large
  have : 2 ^ 17 * 2 ^ 17 ≤ squareRoot d 17 0 * squareRoot d 17 0 := Nat.mul_le_mul (by omega) (by omega)
  omega

/-- Truncated or rounded, the root is within one unit of the exact one, and fits the word unless rounding leads out of
it. -/
theorem centralRoot_near (rounds : Bool) (other : Nat) (bound : d ≤ 131071 * 131071 + 131071) :
    let x := centralRoot d rounds other
    x < 2 ^ 17 ∧ (x - 1) * (x - 1) ≤ d ∧ d < (x + 1) * (x + 1) := by
  intro x
  have fits : d < 2 ^ 34 := by omega
  obtain ⟨below, above⟩ := squareRoot_spec fits
  have small := squareRoot_lt fits
  have x_eq : x = centralRoot d rounds other := rfl
  unfold centralRoot at x_eq
  generalize squareRoot d 17 0 = root at *
  simp only at x_eq
  split at x_eq
  case isTrue up =>
    have larger : root * root + root < d := of_decide_eq_true (Bool.and_eq_true _ _ ▸ up).2
    have inside : root + 1 < 2 ^ 17 := by
      by_contra last
      obtain rfl : root = 131071 := by omega
      omega
    rw [if_pos inside] at x_eq
    rw [x_eq, Nat.add_sub_cancel]
    exact ⟨inside, below, above.trans_le (Nat.mul_le_mul (by omega) (by omega))⟩
  case isFalse =>
    rw [x_eq]
    exact ⟨small, (Nat.mul_le_mul (Nat.sub_le ..) (Nat.sub_le ..)).trans below, above⟩

theorem exec_sqr (s : State) :
    let c := s.central
    let d := doubleMag c.acc c.q
    exec .sqr s =
      if sgn c.acc && (d != 0 || s.freeBit 0) then
        .next ((s.drawn 1).setCentral { c with pc := c.pc + 1, divideCheck := true })
      else
        .next ((s.drawn 5).setCentral { c with
          pc := c.pc + 1
          acc := signMag (sgn c.acc && s.freeBit 4)
            (centralRoot d (s.freeBit 1) (mag (Config.centralWord (s.draws + 2))))
          q := Config.centralWord (s.draws + 3) }) := rfl

end

/-! The statements -/

/-- Settles O51: the sum or the difference of the values. -/
theorem centralAddSubtract : Obligations.CentralAddSubtract := by
  unfold Obligations.CentralAddSubtract
  intro s r y c m
  simp only [List.forall_mem_cons, List.not_mem_nil, false_implies, implies_true, and_true]
  exact ⟨sum_completes rfl, sum_completes rfl⟩

/-- Settles O52: product, quotient and remainder fit the words they are put in. -/
theorem centralMultiplyDivide : Obligations.CentralMultiplyDivide := by
  unfold Obligations.CentralMultiplyDivide
  intro s r y c m
  refine ⟨?mly, fun larger => ?div, fun smaller => completes_of_next (n := 1) (if_pos smaller)⟩
  case mly =>
    exact ⟨_, rfl, rfl, rfl, doubleMag_signMag _ _ (product_lt c.acc m), sgn_signMag .., sgn_signMag ..⟩
  case div =>
    have small : mag m < 2 ^ 17 := mag_lt m
    have remainder : doubleMag c.acc c.q % mag m < mag m := Nat.mod_lt _ (by omega)
    refine ⟨_, if_neg (Nat.not_le.mpr larger), rfl, rfl, ?value, ?remainder, sgn_signMag .., sgn_signMag ..⟩
    case value =>
      refine Eq.trans (congrArg₂ _ (congrArg (· * mag m) (mag_signMag_of_lt _ (quotient_lt larger)))
        (mag_signMag_of_lt _ (remainder.trans small))) ?_
      exact Nat.div_add_mod' ..
    case remainder => exact (mag_signMag_of_lt _ (remainder.trans small)).trans_lt remainder

/-- Settles O53: the sum by whether the signs agree and it fits, the root by the sign of its argument. -/
theorem centralDoubleAndRoot : Obligations.CentralDoubleAndRoot := by
  unfold Obligations.CentralDoubleAndRoot
  intro s r y c a v like d
  refine ⟨dpa_completes s r y, fun negative nonzero => ?negative, fun positive => ?positive, fun negative zero => ?minusZero⟩
  case negative =>
    have checked : (sgn c.acc && (d != 0 || s.freeBit 0)) = true := by simp [negative, nonzero]
    exact completes_of_next ((exec_sqr s).trans (if_pos checked))
  case positive =>
    have unchecked : ¬(sgn c.acc && (d != 0 || s.freeBit 0)) = true := by simp [positive]
    refine ⟨_, (exec_sqr s).trans (if_neg unchecked), rfl, rfl, ?sign, fun bound => ?near⟩
    case sign => exact (sgn_signMag ..).trans (by rw [positive, Bool.false_and])
    case near =>
      obtain ⟨fits, near⟩ := centralRoot_near (s.freeBit 1) (mag (Config.centralWord (s.draws + 2))) bound
      have root : mag (signMag (sgn c.acc && s.freeBit 4) _) = _ := mag_signMag_of_lt _ fits
      rw [← root] at near
      exact near
  case minusZero =>
    rw [exec_sqr]
    split
    · exact ⟨_, rfl, rfl, rfl⟩
    · exact ⟨_, rfl, rfl, rfl⟩

/-- Settles O57: the words are the ones SAP, CSA and CPA put together from a sign and a magnitude. -/
theorem centralRegisterOperations : Obligations.CentralRegisterOperations := by
  unfold Obligations.CentralRegisterOperations
  intro s c
  refine ⟨?sap, ?csa, completes_of_next (n := 0) rfl, ?cpa, rfl, rfl, rfl, rfl⟩
  case sap => rw [exec_sap, signMag_mag]; exact completes_of_next (n := 0) rfl
  case csa => rw [exec_csa, signMag_not_sgn]; exact completes_of_next (n := 0) rfl
  case cpa => rw [exec_cpa, signMag_complement, sgn_eq_getMsbD]; exact completes_of_next (n := 0) rfl

end Sys2Proof.Proofs
end

section
/-! Index operations of the annex machine (49_annex_central_computer.md R452, R479 to R482): what an index register
written leaves alone, counting and transferring on one, and from that the four operations in each form of the R field. -/

namespace Sys2Proof.Proofs

open Sys2Proof.Machine Sys2Proof.Safety

/-- Index register `q` becomes `x` and the program counter `p`; the rest of the annex machine stays. -/
def IndexBecomes (c d : Central) (q : BitVec 4) (x p : CWord) : Prop :=
  d = { c with pc := p, index := d.index } ∧ d.indexValue q = x ∧ ∀ k, k ≠ q → d.indexValue k = c.indexValue k

section

variable {s : State} {c : Central} {r q : BitVec 4} {x : Bool} {y : BitVec 8} {a v w p : CWord} {n : Nat} {k : Result}

/-! The forms of the R field (R479) -/

theorem indexForm_none (h : r = 0 ∨ r = 13) : indexForm r = .none := if_pos h

theorem indexForm_register (low : 1 ≤ r.toNat) (high : r.toNat ≤ 12) : indexForm r = .register := by
  have named : ¬(r = 0 ∨ r = 13) := by
    rintro (rfl | rfl)
    · exact absurd low (by decide)
    · exact absurd high (by decide)
  rw [indexForm, if_neg named, if_pos high]

theorem indexForm_indirect (h : r = 14 ∨ r = 15) : indexForm r = .indirect := by
  rcases h with rfl | rfl <;> rfl

/-! One index register -/

theorem indexBecomes_setIndex (low : 1 ≤ q.toNat) (high : q.toNat ≤ 12) (c : Central) (v p : CWord) :
    IndexBecomes c { c.setIndex q v with pc := p } q v p := by
  refine ⟨by rw [setIndex_eq], (indexValue_setIndex c q q v).trans (if_pos ⟨rfl, low, high⟩), fun k other => ?_⟩
  exact (indexValue_setIndex c q k v).trans (if_neg fun h => other h.1.symm)

theorem sequence_setIndex (c : Central) (q : BitVec 4) (v : CWord) :
    (c.setIndex q v).sequence = { c.setIndex q v with pc := c.pc + 1 } := by
  rw [setIndex_eq]; rfl

theorem mag_append (b : Bool) (v : BitVec 17) : mag (BitVec.ofBool b ++ v) = v.toNat :=
  congrArg BitVec.toNat BitVec.extractLsb'_append_eq_right

theorem indirectY_toNat (w : CWord) : (indirectY w).toNat = mag w := by
  have := mag_lt w
  rw [indirectY, BitVec.toNat_ofNat, Nat.mod_eq_of_lt (by omega)]

/-! Counting (R479, R480) -/

theorem indexPlus_toNat (fits : v.toNat + n < 2 ^ 17) (free : CWord) : (indexPlus v n free).toNat = v.toNat + n := by
  rw [indexPlus, if_pos fits, BitVec.toNat_ofNat, Nat.mod_eq_of_lt (by omega)]

theorem indexMinus_toNat (fits : v.toNat < 2 ^ 17) (covered : n ≤ v.toNat) (free : CWord) :
    (indexMinus v n free).toNat = v.toNat - n := by
  rw [indexMinus, if_pos ⟨fits, covered⟩, BitVec.toNat_ofNat, Nat.mod_eq_of_lt (by omega)]

/-- Counting on an index register: `f` is the index arithmetic. -/
theorem indexStep_register (f : CWord → Nat → CWord → CWord) (low : 1 ≤ r.toNat) (high : r.toNat ≤ 12) :
    ∃ t, indexStep f r y s = .next t ∧ OnlyCentral s t ∧
      IndexBecomes s.central t.central r (f (s.central.indexValue r) y.toNat (Config.centralWord s.draws))
        (s.central.pc + 1) := by
  have next : indexStep f r y s = centralNext (s.drawn 1)
      (s.central.setIndex r (f (s.central.indexValue r) y.toNat (Config.centralWord s.draws))) := by
    unfold indexStep
    rw [indexForm_register low high]
  rw [centralNext, sequence_setIndex] at next
  exact ⟨_, next, rfl, indexBecomes_setIndex low high ..⟩

/-- Counting through an indirect word, on bits 01 to 17 of index register 1; without R^1 nothing is counted. -/
theorem indexStep_indirect (f : CWord → Nat → CWord → CWord) (indirect : r = 14 ∨ r = 15) :
    let c := s.central
    let w := c.word (Config.centralLocation (s.draws + 1) r (y.setWidth 9))
    ∃ t, indexStep f r y s = .next t ∧ OnlyCentral s t ∧
      t.central = { c with pc := c.pc + 1, index := t.central.index } ∧
      (sgn w = false → t.central.index = c.index) ∧
      (sgn w = true → mag (t.central.indexValue 1) =
        (f (indirectY (c.indexValue 1)) (mag w) (Config.centralWord s.draws)).toNat % 2 ^ 17) ∧
      ∀ k, k ≠ 1 → t.central.indexValue k = c.indexValue k := by
  intro c w
  let sum := f (indirectY (c.indexValue 1)) (mag w) (Config.centralWord s.draws)
  have next : indexStep f r y s =
      if sgn w then centralNext (s.drawn 2) (c.setIndexOne sum) else centralNext (s.drawn 2) c := by
    unfold indexStep
    rw [indexForm_indirect indirect]
    rfl
  cases acts : sgn w with
  | false =>
    rw [acts] at next
    exact ⟨_, next, rfl, rfl, fun _ => rfl, nofun, fun _ _ => rfl⟩
  | true =>
    rw [acts, if_pos rfl, centralNext, Central.setIndexOne, sequence_setIndex] at next
    obtain ⟨frame, value, others⟩ := indexBecomes_setIndex (q := 1) (by decide) (by decide) c
      (BitVec.ofBool (sgn (c.indexValue 1)) ++ sum.extractLsb' 0 17) (c.pc + 1)
    refine ⟨_, next, rfl, frame, nofun, fun _ => ?_, others⟩
    exact (congrArg mag value).trans ((mag_append ..).trans (by simp [BitVec.extractLsb'_toNat, sum]))

/-! Transfer on an index register (R481) -/

theorem indexTransfer_completes (low : 1 ≤ q.toNat) (high : q.toNat ≤ 12) (runs : k = indexTransfer q a (s.drawn n)) :
    let c := s.central
    ∃ t, k = .next t ∧ OnlyCentral s t ∧
      t.central = { c with pc := t.central.pc, index := t.central.index } ∧
      (c.indexValue q = 0 → t.central.pc = c.pc + 1 ∧ t.central.index = c.index) ∧
      (c.indexValue q ≠ 0 → t.central.pc = a ∧ t.central.indexValue q = c.indexValue q - 1) ∧
      ∀ k, k ≠ q → t.central.indexValue k = c.indexValue k := by
  intro c
  by_cases zero : c.indexValue q = 0
  · exact ⟨_, runs.trans (if_pos zero), rfl, rfl, fun _ => ⟨rfl, rfl⟩, fun h => absurd zero h, fun _ _ => rfl⟩
  · obtain ⟨frame, value, others⟩ := indexBecomes_setIndex low high c (c.indexValue q - 1) a
    exact ⟨_, runs.trans (if_neg zero), rfl, frame, fun h => absurd h zero, fun _ => ⟨rfl, value⟩, others⟩

theorem trx_register (low : 1 ≤ r.toNat) (high : r.toNat ≤ 12) :
    exec (.trx r x y) s =
      indexTransfer r (Config.centralLocation s.draws r (BitVec.ofBool x ++ y)) (s.drawn 1) := by
  change execTrx r x y s = _
  unfold execTrx
  rw [indexForm_register low high]
  rfl

theorem trx_indirect (indirect : r = 14 ∨ r = 15) :
    let w := s.central.word (Config.centralLocation s.draws r (BitVec.ofBool x ++ y))
    exec (.trx r x y) s =
      if sgn w then indexTransfer 1 (indirectY w) (s.drawn 1)
      else .next ((s.drawn 2).setCentral { s.central with pc := Config.centralWord (s.draws + 1) }) := by
  change execTrx r x y s = _
  unfold execTrx
  rw [indexForm_indirect indirect]
  rfl

/-! Skip on an index register (R482) -/

theorem centralSkipIf_eq (s : State) (skips : Bool) :
    centralSkipIf s skips = .next (s.setCentral
      { s.central with pc := if skips then s.central.pc + 2 else s.central.pc + 1 }) := by
  cases skips <;> rfl

theorem sxh_register (low : 1 ≤ r.toNat) (high : r.toNat ≤ 12) :
    exec (.sxh r x y) s = centralSkipIf (s.drawn 0) (decide (y.toNat < (s.central.indexValue r).toNat)) := by
  change execSxh r x y s = _
  unfold execSxh
  rw [indexForm_register low high]
  rfl

theorem sxh_indirect (indirect : r = 14 ∨ r = 15) :
    let w := s.central.word (Config.centralLocation s.draws r (BitVec.ofBool x ++ y))
    exec (.sxh r x y) s = if sgn w then
        centralSkipIf (s.drawn 1) (decide (mag w < (s.central.indexValue 1).toNat))
      else centralSkipIf (s.drawn 2) (Config.freeBit (s.draws + 1)) := by
  change execSxh r x y s = _
  unfold execSxh
  rw [indexForm_indirect indirect]
  rfl

/-! The operations that do nothing -/

theorem index_none (none : r = 0 ∨ r = 13) {i : Instr} (operation : i ∈ [Instr.inx r y, .dcx r y, .trx r x y, .sxh r x y]) :
    exec i s = centralNext s s.central := by
  have form := indexForm_none none
  simp only [List.mem_cons, List.not_mem_nil, or_false] at operation
  rcases operation with rfl | rfl | rfl | rfl
  · change indexStep .. = _; unfold indexStep; rw [form]
  · change indexStep .. = _; unfold indexStep; rw [form]
  · change execTrx .. = _; unfold execTrx; rw [form]
  · change execSxh .. = _; unfold execSxh; rw [form]

end

/-! The statement -/

/-- Settles O55: counting, transferring and skipping, each on the register its R field names. -/
theorem centralIndexOperations : Obligations.CentralIndexOperations := by
  unfold Obligations.CentralIndexOperations
  intro s r x y c v one w z
  refine ⟨fun none i operation => completes_of_next (n := 0) (index_none none operation),
    fun low high => ⟨?inx, ?dcx, ?trx, ?sxh⟩, fun indirect => ⟨?inxWord, ?dcxWord, ?trxWord, ?sxhWord⟩⟩
  case inx =>
    obtain ⟨t, next, only, frame, value, others⟩ := indexStep_register indexPlus low high
    exact ⟨t, next, only, frame, fun fits => value ▸ indexPlus_toNat fits _, others⟩
  case dcx =>
    obtain ⟨t, next, only, frame, value, others⟩ := indexStep_register indexMinus low high
    exact ⟨t, next, only, frame, fun fits covered => value ▸ indexMinus_toNat fits covered _, others⟩
  case trx => exact indexTransfer_completes low high (trx_register low high)
  case sxh =>
    refine ⟨_, (sxh_register low high).trans (centralSkipIf_eq ..), rfl, ?_⟩
    simp only [decide_eq_true_eq]
    rfl
  case inxWord =>
    obtain ⟨t, next, only, frame, idle, value, others⟩ := indexStep_indirect indexPlus indirect
    refine ⟨t, next, only, frame, idle, fun acts fits => ?_, others⟩
    rw [value acts, indexPlus_toNat (by rwa [indirectY_toNat]), indirectY_toNat, Nat.mod_eq_of_lt fits]
  case dcxWord =>
    obtain ⟨t, next, only, frame, idle, value, others⟩ := indexStep_indirect indexMinus indirect
    refine ⟨t, next, only, frame, idle, fun acts covered => ?_, others⟩
    have small : mag one < 2 ^ 17 := mag_lt one
    rw [value acts, indexMinus_toNat (by rwa [indirectY_toNat]) (by rwa [indirectY_toNat]), indirectY_toNat,
      Nat.mod_eq_of_lt ((Nat.sub_le ..).trans_lt small)]
  case trxWord =>
    have runs := trx_indirect (s := s) (x := x) (y := y) indirect
    by_cases acts : sgn z = true
    · obtain ⟨t, next, only, frame, zero, counts, others⟩ :=
        indexTransfer_completes (q := 1) (by decide) (by decide) (runs.trans (if_pos acts))
      refine ⟨t, next, only, frame, fun idle => (zero (idle.resolve_left (by simp [acts]))).2,
        fun _ last => (zero last).1, fun _ more => ?_, others⟩
      obtain ⟨target, value⟩ := counts more
      exact ⟨target ▸ indirectY_toNat z, value⟩
    · exact ⟨_, runs.trans (if_neg acts), rfl, rfl, fun _ => rfl, fun h => absurd h acts, fun h => absurd h acts,
        fun _ _ => rfl⟩
  case sxhWord =>
    have runs := sxh_indirect (s := s) (x := x) (y := y) indirect
    by_cases acts : sgn z = true
    · exact ⟨_, (runs.trans (if_pos acts)).trans (centralSkipIf_eq ..), rfl, rfl, (ite_eq_or_eq ..).symm,
        fun _ => if_congr decide_eq_true_iff rfl rfl⟩
    · exact ⟨_, (runs.trans (if_neg acts)).trans (centralSkipIf_eq ..), rfl, rfl, (ite_eq_or_eq ..).symm,
        fun h => absurd h acts⟩

end Sys2Proof.Proofs
end

section
/-! Shifts of the annex machine (49_annex_central_computer.md R487 to R495): the illegal R fields, the halves of a
double-length word, the ring sum, and from that the eight shifts and rotates. -/

namespace Sys2Proof.Proofs

open Sys2Proof.Machine Sys2Proof.Safety

/-! Results -/

/-- Two words put together from the low 34 bits of a number. -/
theorem doubleMag_signMag_mod (high low : Bool) (v : Nat) :
    doubleMag (signMag high (v % 2 ^ 34 / 2 ^ 17)) (signMag low (v % 2 ^ 17)) = v % 2 ^ 34 := by
  have low17 : v % 2 ^ 34 % 2 ^ 17 = v % 2 ^ 17 := Nat.mod_mod_of_dvd v (by decide)
  rw [← low17, doubleMag_signMag high low (Nat.mod_lt _ (by decide))]

theorem both_split (v : BitVec 36) : v.extractLsb' 18 18 ++ v.extractLsb' 0 18 = v :=
  (BitVec.extractLsb'_append_extractLsb'_eq_extractLsb' rfl).trans BitVec.extractLsb'_eq_self

/-- The ring sum is the parity of the bits passed (R495). -/
theorem ringSum_eq_odd (v : BitVec 36) (n : Nat) :
    ringSum v n = (((List.range n).countP fun e => v.getLsbD (e % 36)) % 2 == 1) := by
  induction n with
  | zero => rfl
  | succ n ih =>
    rw [ringSum, ih, List.range_succ, List.countP_append, List.countP_singleton]
    generalize (List.range n).countP _ = count
    have parity : count % 2 = 0 ∨ count % 2 = 1 := Nat.mod_two_eq_zero_or_one count
    cases v.getLsbD (n % 36) <;> rcases parity with even | odd <;> simp [Nat.add_mod, *]

/-! The statement -/

/-- Settles O56: the eight differ in what they make of the accumulator and Q alone. -/
theorem centralShifts : Obligations.CentralShifts := by
  unfold Obligations.CentralShifts
  intro s r k c n both d eight
  refine ⟨fun illegal => ?illegal, fun named => ?_⟩
  case illegal =>
    have runs : ∀ i ∈ eight, exec i s = centralIllegal s := by
      simp only [eight, List.forall_mem_cons, List.not_mem_nil, false_implies, implies_true, and_true]
      exact ⟨if_pos illegal, if_pos illegal, if_pos illegal, if_pos illegal, if_pos illegal, if_pos illegal,
        if_pos illegal, if_pos illegal⟩
    exact fun i shift => ⟨runs i shift, runs i shift ▸ centralIllegal_illegalOperation s⟩
  have legal : ¬13 ≤ r.toNat := Nat.not_le.mpr (Nat.lt_succ_of_le named)
  refine ⟨?frame, ?lsa, ?lsb, ?rsa, ?rsb, ?rra, ?rrq, ?lrb, ?rrb⟩
  case frame =>
    simp only [eight, List.forall_mem_cons, List.not_mem_nil, false_implies, implies_true, and_true]
    refine ⟨?_, ?_, ?_, ?_, ?_, ?_, ?_, ?_⟩
    all_goals exact ⟨_, if_neg legal, rfl, rfl⟩
  case lsa =>
    exact ⟨_, if_neg legal, (mag_signMag ..).trans (Nat.mod_mod ..), sgn_signMag .., rfl, rfl, rfl⟩
  case lsb =>
    exact ⟨_, if_neg legal, doubleMag_signMag_mod .., sgn_signMag .., sgn_signMag .., rfl, rfl⟩
  case rsa =>
    have fits : mag c.acc / 2 ^ n < 2 ^ 17 := (Nat.div_le_self ..).trans_lt (mag_lt c.acc)
    exact ⟨_, if_neg legal, mag_signMag_of_lt _ fits, sgn_signMag .., rfl, rfl, rfl⟩
  case rsb =>
    have fits : d / 2 ^ n < 2 ^ 34 := (Nat.div_le_self ..).trans_lt (doubleMag_lt c.acc c.q)
    exact ⟨_, if_neg legal, doubleMag_signMag _ _ fits, sgn_signMag .., sgn_signMag .., rfl, rfl⟩
  case rra => exact ⟨_, if_neg legal, rfl, rfl, rfl, rfl⟩
  case rrq => exact ⟨_, if_neg legal, rfl, rfl, rfl, rfl⟩
  case lrb => exact ⟨_, if_neg legal, both_split _, rfl, rfl⟩
  case rrb =>
    refine ⟨_, if_neg legal, both_split _, rfl, fun j => ?_⟩
    rw [← ringSum_eq_odd]
    exact indicator_set c 1 j _

end Sys2Proof.Proofs
end

section
/-! Page registers, block indicators, indicators and switches of the annex machine (49_annex_central_computer.md R462,
R463, R500 to R510): the counting of page registers, the order of the compares, where PIA and PAI put the sense indicators,
and from that these instructions. -/

namespace Sys2Proof.Proofs

open Sys2Proof.Machine Sys2Proof.Safety

section

variable {s : State} {c : Central} {a b w : CWord} {n : BitVec 10}

/-! Page registers and block indicators (R500 to R503) -/

theorem sgn_of_lt (small : w.toNat < 2 ^ 17) : sgn w = false := by
  rw [sgn, BitVec.msb_eq_false_iff_two_mul_lt]
  omega

theorem mag_of_lt (small : w.toNat < 2 ^ 17) : mag w = w.toNat := by
  simp only [mag, BitVec.extractLsb'_toNat, Nat.shiftRight_zero, Nat.mod_eq_of_lt small]

theorem centralPlusOne_of_lt (small : w.toNat < 131071) : centralPlusOne w = w + 1 := by
  have positive : sgn w = false := sgn_of_lt (by omega)
  have notLast : (mag w == 2 ^ 17 - 1) = false := by
    rw [mag_of_lt (by omega), beq_eq_false_iff_ne]; omega
  rw [centralPlusOne, positive, notLast]
  rfl

theorem readPage_writePage (pages : WordStore) (p k : BitVec 8) (w : CWord) :
    readStore 0 (writeStore 0 pages p.toNat w) k.toNat = if k = p then w else readStore 0 pages k.toNat := by
  rw [readStore_writeStore]
  exact if_congr (BitVec.toNat_inj.trans eq_comm) rfl rfl

/-- LPR writes the page register and counts both words on; page register 0 is not written. -/
theorem exec_lpr (s : State) :
    let c := s.central
    let p := Config.centralPage c.acc
    let counted := { c with pc := c.pc + 1, acc := centralPlusOne c.acc, q := centralPlusOne c.q }
    exec .lpr s =
      if p = 0 then
        .next (s.setCentral (if Config.centralPageZeroCounts then counted else { c with pc := c.pc + 1 }))
      else .next (s.setCentral { counted with pages := writeStore 0 c.pages p.toNat c.q }) := by
  intro c p counted
  change execLpr s = _
  unfold execLpr
  cases Config.centralPageZeroCounts <;> rfl

theorem lpr_completes (s : State) :
    let c := s.central
    let p := Config.centralPage c.acc
    ∃ t, exec .lpr s = .next t ∧ OnlyCentral s t ∧
      t.central = { c with pc := c.pc + 1, acc := t.central.acc, q := t.central.q, pages := t.central.pages } ∧
      (∀ k : BitVec 8,
        readStore 0 t.central.pages k.toNat = if p ≠ 0 ∧ k = p then c.q else readStore 0 c.pages k.toNat) ∧
      (c.acc.toNat < 131071 → t.central.acc = c.acc + 1 ∨ p = 0 ∧ t.central.acc = c.acc) ∧
      (c.q.toNat < 131071 → t.central.q = c.q + 1 ∨ p = 0 ∧ t.central.q = c.q) := by
  intro c p
  rw [exec_lpr]
  by_cases zero : p = 0
  · have unwritten (k : BitVec 8) :
        readStore 0 c.pages k.toNat = if p ≠ 0 ∧ k = p then c.q else readStore 0 c.pages k.toNat :=
      (if_neg fun h => h.1 zero).symm
    rw [if_pos zero]
    cases Config.centralPageZeroCounts
    · exact ⟨_, rfl, rfl, rfl, unwritten, fun _ => .inr ⟨zero, rfl⟩, fun _ => .inr ⟨zero, rfl⟩⟩
    · exact ⟨_, rfl, rfl, rfl, unwritten, fun small => .inl (centralPlusOne_of_lt small),
        fun small => .inl (centralPlusOne_of_lt small)⟩
  · rw [if_neg zero]
    refine ⟨_, rfl, rfl, rfl, fun k => ?_, fun small => .inl (centralPlusOne_of_lt small),
      fun small => .inl (centralPlusOne_of_lt small)⟩
    exact (readPage_writePage c.pages p k c.q).trans (if_congr (and_iff_right zero).symm rfl rfl)

theorem blockBits_append (high : BitVec 6) (bits : BitVec 4) (low : BitVec 8) :
    (high ++ bits ++ low : CWord).extractLsb' 8 4 = bits :=
  (BitVec.extractLsb'_append_eq_of_le (by decide)).trans BitVec.extractLsb'_append_eq_right

/-! Indicators and switches (R505 to R507, R510) -/

theorem indicator_setIndicators_named {j : Fin 10} {v : Bool} (notF3 : j ≠ 2) (notF7 : j ≠ 6 ∨ c.dual = true) :
    (c.setIndicators n v).indicator j = if namesIndicator n j then v else c.indicator j := by
  have free : ¬(j = 6 ∧ (!c.dual) = true) := by
    rintro ⟨f7, single⟩
    rcases notF7 with other | dual
    · exact other f7
    · simp [dual] at single
  rw [indicator_setIndicators, if_neg free]
  exact if_congr (and_iff_right notF3) rfl rfl

theorem setIndicators_completes {k : Result} {v : Bool} (runs : k = centralNext s (s.central.setIndicators n v)) :
    ∃ t, k = .next t ∧ OnlyCentral s t ∧
      t.central = { s.central with pc := s.central.pc + 1, indicators := t.central.indicators } ∧
      t.central.indicator 2 = s.central.indicator 2 ∧
      (s.central.dual = false → t.central.indicator 6 = true) ∧
      ∀ j, j ≠ 2 → (j ≠ 6 ∨ s.central.dual = true) →
        t.central.indicator j = if namesIndicator n j then v else s.central.indicator j := by
  refine ⟨_, runs, rfl, rfl, ?f3, fun single => ?f7, fun j notF3 notF7 => ?named⟩
  case f3 => exact (indicator_setIndicators s.central n v 2).trans rfl
  case f7 => exact (indicator_setIndicators s.central n v 6).trans (if_pos ⟨rfl, by simp [single]⟩)
  case named => exact indicator_setIndicators_named notF3 notF7

/-- All the named switches are on. -/
theorem switches_on_iff (n w : BitVec 10) : (n &&& ~~~w == 0) = true ↔ n &&& w = n := by
  rw [beq_iff_eq]
  constructor
  · intro none
    calc n &&& w = (n &&& w) ||| (n &&& ~~~w) := by rw [none]; exact BitVec.or_zero.symm
      _ = n := by ext; simp [← Bool.and_or_distrib_left]
  · intro all
    rw [← all, BitVec.and_assoc]
    ext; simp

theorem skips_completes {k : Result} {skips : Bool} {P : Prop} [Decidable P] (runs : k = centralSkipIf s skips)
    (condition : skips = true ↔ P) :
    ∃ t, k = .next t ∧ OnlyCentral s t ∧
      t.central = { s.central with pc := if P then s.central.pc + 2 else s.central.pc + 1 } := by
  rw [centralSkipIf_eq, if_congr condition rfl rfl] at runs
  exact ⟨_, runs, rfl, rfl⟩

end

/-! The statements -/

/-- Settles O58: a page register, a block indicator or a word is written, each as its operation says. -/
theorem centralPages : Obligations.CentralPages := by
  unfold Obligations.CentralPages
  intro s ch c p
  refine ⟨lpr_completes s, ⟨_, rfl, rfl, rfl, centralPlusOne_of_lt⟩, ⟨_, rfl, rfl, rfl, fun k => ?lbi⟩,
    ⟨_, rfl, rfl, rfl, blockBits_append ..⟩⟩
  case lbi => exact (Vector.getElem_set ch.isLt k.isLt).trans (if_congr eq_comm rfl rfl)

/-- Settles O59: the named indicators are written one to one, and a skip is taken when all named ones are on. -/
theorem centralIndicators : Obligations.CentralIndicators := by
  unfold Obligations.CentralIndicators
  intro s n c names code
  simp only [List.forall_mem_cons, List.not_mem_nil, false_implies, implies_true, and_true]
  refine ⟨⟨setIndicators_completes rfl, setIndicators_completes rfl⟩, skips_completes rfl ?ski,
    skips_completes rfl (switches_on_iff n c.switches), rfl, rfl, rfl, rfl⟩
  case ski => simp [names, namesIndicator, c, List.all_eq_true, imp_iff_not_or]

end Sys2Proof.Proofs
end

section
/-! Compares and sense indicators of the annex machine (49_annex_central_computer.md R451, R462, R463, R508, R509): the
order of CMA, the word that holds the thirteen sense indicators, and from that CMA, CML, PIA and PAI. -/

namespace Sys2Proof.Proofs

open Sys2Proof.Machine Sys2Proof.Safety

section

variable {s : State} {a b : CWord}

/-! Compares (R462, R463) -/

/-- A sign and a magnitude are given back by the sign and the value. -/
theorem eq_of_value_of_sgn (value : centralValue a = centralValue b) (sign : sgn a = sgn b) : a = b := by
  have magnitude : mag a = mag b := by
    unfold centralValue at value
    rw [sign] at value
    split at value <;> omega
  rw [← signMag_eq a, ← signMag_eq b, sign, magnitude]

/-- Two words are the same when neither is above the other in the order of CMA. -/
theorem neither_above_iff : (!algebraicAbove b a && !algebraicAbove a b) = decide (a = b) := by
  rw [Bool.eq_iff_iff, decide_eq_true_iff]
  constructor
  · intro neither
    simp only [algebraicAbove, Bool.and_eq_true, Bool.not_eq_true', Bool.or_eq_false_iff,
      decide_eq_false_iff_not] at neither
    obtain ⟨⟨notLess, zeroB⟩, notMore, zeroA⟩ := neither
    have value : centralValue a = centralValue b := by omega
    rw [value, beq_self_eq_true, Bool.true_and] at zeroA zeroB
    refine eq_of_value_of_sgn value ?_
    cases signA : sgn a <;> cases signB : sgn b <;> simp_all
  · rintro rfl
    simp [algebraicAbove]

theorem algebraicAbove_of_lt (less : centralValue b < centralValue a) :
    algebraicAbove a b = true ∧ algebraicAbove b a = false := by
  have notMore : ¬centralValue a < centralValue b := by omega
  have differ : centralValue b ≠ centralValue a := less.ne
  simp [algebraicAbove, less, notMore, differ]

/-- The word 0 is above the word of sign 1 and magnitude 0. -/
theorem algebraicAbove_zeros : algebraicAbove 0 0x20000 = true ∧ algebraicAbove 0x20000 0 = false := by decide

/-- The indicators of a compare whose operands are in order, high for the first above the second. -/
theorem compared_high (c : Central) {above below : Bool} (order : above = true ∧ below = false) :
    (c.compared above below).compareHigh = true ∧ (c.compared above below).compareLow = false := by
  obtain ⟨rfl, rfl⟩ := order
  exact ⟨rfl, rfl⟩

theorem compared_low (c : Central) {above below : Bool} (order : below = true ∧ above = false) :
    (c.compared above below).compareHigh = false ∧ (c.compared above below).compareLow = true := by
  obtain ⟨rfl, rfl⟩ := order
  exact ⟨rfl, rfl⟩

theorem compared_unsigned (c : Central) (m : CWord) :
    c.compared (decide (m.toNat < c.acc.toNat)) (decide (c.acc.toNat < m.toNat)) =
      { c with compareHigh := decide (m ≤ c.acc), compareLow := decide (c.acc ≤ m) } := by
  simp only [Central.compared, ← decide_not, Nat.not_lt, BitVec.le_def]

theorem cma_completes (s : State) (r : BitVec 4) (y : BitVec 9) :
    let c := s.central
    let m := c.word (Config.centralLocation s.draws r y)
    ∃ t, exec (.cma r y) s = .next t ∧ OnlyCentral s t ∧
      t.central = { c with pc := c.pc + 1, compareHigh := t.central.compareHigh, compareLow := t.central.compareLow } ∧
      (t.central.compareHigh && t.central.compareLow) = decide (c.acc = m) ∧
      (centralValue m < centralValue c.acc → t.central.compareHigh = true ∧ t.central.compareLow = false) ∧
      (centralValue c.acc < centralValue m → t.central.compareHigh = false ∧ t.central.compareLow = true) ∧
      (c.acc = 0 → m = 0x20000 → t.central.compareHigh = true ∧ t.central.compareLow = false) ∧
      (c.acc = 0x20000 → m = 0 → t.central.compareHigh = false ∧ t.central.compareLow = true) := by
  intro c m
  refine ⟨_, rfl, rfl, rfl, neither_above_iff, fun less => compared_high c (algebraicAbove_of_lt less),
    fun less => compared_low c (algebraicAbove_of_lt less), fun plus minus => compared_high c ?_,
    fun minus plus => compared_low c ?_⟩
  · change algebraicAbove c.acc m = true ∧ algebraicAbove m c.acc = false
    rw [plus, minus]
    exact algebraicAbove_zeros
  · change algebraicAbove m c.acc = true ∧ algebraicAbove c.acc m = false
    rw [minus, plus]
    exact algebraicAbove_zeros

theorem cml_completes (s : State) (r : BitVec 4) (y : BitVec 9) :
    let c := s.central
    let m := c.word (Config.centralLocation s.draws r y)
    ∃ t, exec (.cml r y) s = .next t ∧ OnlyCentral s t ∧ t.central =
      { c with pc := c.pc + 1, compareHigh := decide (m ≤ c.acc), compareLow := decide (c.acc ≤ m) } := by
  intro c m
  exact completes_of_next (n := 1) (congrArg (centralNext (s.drawn 1)) (compared_unsigned c m))

/-! Sense indicators (R508, R509) -/

/-- The thirteen sense indicators in their order: F1 to F10, the compare indicators, overflow. -/
theorem sense_getD_indicator (c : Central) (j : Fin 10) : c.sense.getD j.val false = c.indicator j := by
  have inside : j.val < c.indicators.toList.length := by simp
  rw [Central.sense, List.getD_append _ _ _ _ inside, List.getD_eq_getElem _ _ inside]
  rfl

theorem sense_getD_others (c : Central) :
    c.sense.getD 10 false = c.compareHigh ∧ c.sense.getD 11 false = c.compareLow ∧
      c.sense.getD 12 false = c.overflow := by
  have behind (k : Nat) : c.sense.getD (10 + k) false = [c.compareHigh, c.compareLow, c.overflow].getD k false := by
    rw [Central.sense, List.getD_append_right _ _ _ _ (by simp)]
    simp
  exact ⟨behind 0, behind 1, behind 2⟩

theorem getLsbD_oneBit {i : Nat} (inside : i < 18) (p : Nat) : (1#18 <<< p).getLsbD i = (p == i) := by
  rw [Bool.eq_iff_iff]
  simp [inside]
  omega

/-- A bit of the word gathered from some indicators, each at its place. -/
theorem getLsbD_gather (sense : Fin 13 → Bool) (place : Fin 13 → Nat) (l : List (Fin 13)) (w : CWord) {i : Nat}
    (inside : i < 18) :
    (l.foldl (fun w k => if sense k then w ||| (1#18 <<< place k) else w) w).getLsbD i =
      (w.getLsbD i || l.any fun k => sense k && place k == i) := by
  induction l generalizing w with
  | nil => simp
  | cons k l ih =>
    rw [List.foldl_cons, ih, List.any_cons]
    cases sense k
    · simp
    · rw [if_pos rfl, BitVec.getLsbD_or, getLsbD_oneBit inside, Bool.true_and, Bool.or_assoc]

theorem getLsbD_senseWord (c : Central) {i : Nat} (inside : i < 18) :
    c.senseWord.getLsbD i =
      (List.finRange 13).any fun k => c.sense.getD k.val false && (Config.centralSenseBit k).val == i := by
  refine (getLsbD_gather _ (fun k => (Config.centralSenseBit k).val) _ 0 inside).trans ?_
  rw [BitVec.ofNat_eq_ofNat, BitVec.getLsbD_zero, Bool.false_or]

/-- PIA puts each sense indicator at its own place. -/
theorem senseBit_senseWord (c : Central) (k : Fin 13) : senseBit c.senseWord k = c.sense.getD k.val false := by
  rw [senseBit, getLsbD_senseWord c (by omega), Bool.eq_iff_iff]
  simp [List.any_eq_true, Fin.val_inj]

/-- The other bits are clear. -/
theorem senseWord_high (c : Central) : c.senseWord.extractLsb' 13 5 = 0 := by
  apply BitVec.eq_of_getLsbD_eq
  intro i inside
  have beyond (k : Fin 13) : ((Config.centralSenseBit k).val == 13 + i) = false := by
    rw [beq_eq_false_iff_ne]; omega
  rw [BitVec.getLsbD_extractLsb', getLsbD_senseWord c (by omega)]
  simp [beyond]

end

/-! The statement -/

/-- Settles O49: the compares by the order of the two words, PIA and PAI by the places of the sense indicators, and no
other instruction writes the compare indicators. -/
theorem centralCompares : Obligations.CentralCompares := by
  unfold Obligations.CentralCompares
  refine ⟨fun s r y => ?compares, fun s => ?sense, fun s t i next changed => ?others⟩
  case compares =>
    exact ⟨cma_completes s r y, cml_completes s r y, ⟨r ++ y, congrArg Code.word BitVec.append_assoc⟩,
      ⟨r ++ y, congrArg Code.word BitVec.append_assoc⟩⟩
  case sense =>
    intro c
    obtain ⟨high, low, overflow⟩ := sense_getD_others c
    refine ⟨⟨_, rfl, rfl, rfl, fun j => ?_, (senseBit_senseWord c 10).trans high, (senseBit_senseWord c 11).trans low,
      (senseBit_senseWord c 12).trans overflow, senseWord_high c⟩, ⟨_, rfl, rfl, rfl, fun j => ?_⟩, rfl, rfl⟩
    · exact (senseBit_senseWord c _).trans (sense_getD_indicator c j)
    · exact indicatorVector_get _ j
  case others =>
    cases encoded : encode i with
    | bytes l =>
      have same := ((exec_nextKeeps s encoded).next t next).central
      simp [same] at changed
    | word w =>
      obtain ⟨-, kept⟩ := (exec_nextCentral s encoded).next t next
      exact kept.compare.resolve_right fun same => by simp [same] at changed

end Sys2Proof.Proofs
end

section
/-! Input and output of the annex machine (49_annex_central_computer.md R511 to R523): the odd parity of a frame, the
address of EXF, when a serial operation acts, and from that EXF and the eleven serial instructions. -/

namespace Sys2Proof.Proofs

open Sys2Proof.Machine Sys2Proof.Safety

section

variable {s : State} {k l : Result}

/-! Odd parity (R522, R523) -/

/-- The parity of a list of bits, taken up from any bit, is that of the number of its ones. -/
theorem foldl_xor_eq (bits : List Bool) (first : Bool) :
    bits.foldl (· ^^ ·) first = ((bits.countP id + first.toNat) % 2 == 1) := by
  induction bits generalizing first with
  | nil => cases first <;> rfl
  | cons bit bits ih =>
    rw [List.foldl_cons, ih, List.countP_cons, Bool.eq_iff_iff, beq_iff_eq, beq_iff_eq]
    cases first <;> cases bit <;> simp [Nat.add_assoc]

/-- Data bits, F4 and the parity bit hold an odd number of ones together. -/
theorem oddParity_odd {n : Nat} (v : BitVec n) (f4 : Bool) :
    (((List.range n).countP (fun k => v.getLsbD k) + f4.toNat + (oddParity v f4).toNat) % 2 == 1) = true := by
  have parity : oddParity v f4 = !(((List.range n).countP (fun k => v.getLsbD k) + f4.toNat) % 2 == 1) := by
    unfold oddParity oddOnes
    rw [List.foldl_cons, foldl_xor_eq, List.countP_map, Bool.false_xor]
    rfl
  rw [parity]
  generalize (List.range n).countP (fun k => v.getLsbD k) + f4.toNat = ones
  obtain even | odd := Nat.mod_two_eq_zero_or_one ones
  · simp [Nat.add_mod, even]
  · simp [odd]

/-! EXF (R511) -/

/-- A Y whose leading bit is zero gives the address of the command word, from zero or from the program counter. -/
theorem exfAddress_of_lt (y1 : Bool) {y : BitVec 9} (small : y.toNat < 256) :
    exfAddress y1 y s = BitVec.ofNat 18 (y.toNat + if y1 then s.central.pc.toNat else 0) := by
  have leading : y.msb = false := BitVec.msb_eq_false_iff_two_mul_lt.mpr (by omega)
  unfold exfAddress
  rw [leading]
  cases y1 <;> apply BitVec.eq_of_toNat_eq <;> simp [Nat.add_comm]

/-! Serial operations (R512) -/

/-- A serial operation acts when the Console Not Busy Indicator is on. -/
theorem whenNotBusy_of_true (free : s.central.consoleNotBusy = true) (acts : k = l) : whenNotBusy s k = l :=
  (if_pos free).trans acts

/-- A serial operation only goes on to the next instruction when the Console Not Busy Indicator is off. -/
theorem whenNotBusy_of_false (busy : s.central.consoleNotBusy = false) :
    ∃ t, whenNotBusy s k = .next t ∧ OnlyCentral s t ∧ t.central = { s.central with pc := s.central.pc + 1 } :=
  completes_of_next (n := 0) (if_neg (Bool.eq_false_iff.mp busy))

end

/-- Settles O60: the rules of the parity bit, of the address of EXF and of the Console Not Busy Indicator. -/
theorem centralInputOutput : Obligations.CentralInputOutput := by
  unfold Obligations.CentralInputOutput
  intro s ch y1 y c q6 q7 odd sends
  refine ⟨fun present => ?exf, fun absent => ?absent, ?twf, ?cts, ?pmo, ?pmf, ?ipc, fun free => ?free, fun busy => ?busy⟩
  case exf =>
    exact ⟨c.word (exfAddress y1 y s), completes_of_next (n := 1) (if_pos present),
      fun small => congrArg c.word (exfAddress_of_lt y1 small)⟩
  case absent => exact completes_of_next (n := 0) (if_neg (Bool.eq_false_iff.mp absent))
  case twf | cts | pmo | pmf | ipc => exact completes_of_next (n := 0) rfl
  case free =>
    refine ⟨?twa, ?cta, ?ctr, ⟨s.freeBit 0, ?otw⟩, ⟨s.freeBit 0, oddParity q6 (c.indicator 3), ?opa, oddParity_odd _ _⟩,
      ⟨oddParity q7 (c.indicator 3), ?opb, oddParity_odd _ _⟩⟩
    case otw | opa => exact completes_of_next (n := 1) (whenNotBusy_of_true free rfl)
    case twa | cta | ctr | opb => exact completes_of_next (n := 0) (whenNotBusy_of_true free rfl)
  case busy =>
    simp only [List.forall_mem_cons, List.not_mem_nil, false_implies, implies_true, and_true]
    exact ⟨whenNotBusy_of_false busy, whenNotBusy_of_false busy, whenNotBusy_of_false busy, whenNotBusy_of_false busy,
      whenNotBusy_of_false busy, whenNotBusy_of_false busy⟩

end Sys2Proof.Proofs
end
